-- ==== Sys2Proof/Word.lean ====
section
/-! DEFINITION. The words of the PD428: bytes, times of the microsecond time base, stamps, characters of text. -/

namespace Sys2Proof

/-- One byte of a link period, a Capture Port message or a flash sector. -/
abbrev Byte := BitVec 8

/-- A time on the part's free-running 32-bit microsecond time base (00_scope, "Time"). -/
abbrev Time := BitVec 32

/-- A value of the change counter, and a record's stamp: 48 bits (R5). -/
abbrev Stamp := BitVec 48

/-- Text as the manual compares it, character for character (R22). -/
abbrev Text := List Char

end Sys2Proof
end

