-- ==== Sys2Proof/Syntax.lean ====
section
/-! DEFINITION. The commands of the PD428: one constructor for each row of spec/opcode_table.json, in its order. -/

namespace Sys2Proof

/-- A command. A link request's operands travel in the frame that WRITE_PERIOD brought and that is the request in hand (R159), so
the request rows have none of their own (log 7); an inner step names the control or lamp whose waiting action it takes (log 9). -/
inductive Instr where
  /-- Supply ramp-up, with the level of the CHSEL strap (R19, R30): `true` is high, the 4-channel build. -/
  | powerOnReset (chsel : Bool)
  /-- RESETn driven low, with the level of the CHSEL strap (R20, R30). -/
  | deviceReset (chsel : Bool)
  /-- A chip-select period whose first byte is not FFh ends; `bytes` are its whole bytes (R157, R159). -/
  | writePeriod (bytes : List Byte)
  /-- A chip-select period that starts with FFh; `n` is how many whole bytes were clocked (R157, R160). -/
  | readPeriod (n : Nat)
  /-- The held request is taken (R159). -/
  | heldRequestTaken
  /-- The link answers IDENTIFY (R162). -/
  | identify
  /-- The Setting Table answers LOOKUP (R162). -/
  | lookup
  /-- The Setting Table takes AMEND (R7). -/
  | amend
  /-- The Setting Table takes CREATE (R9). -/
  | create
  /-- The Setting Table takes RETIRE (R10). -/
  | retire
  /-- The Setting Table takes COLLECT (R13). -/
  | collect
  /-- The Setting Table takes INTENT with sub-action ACCEPT (R17). -/
  | intentAccept
  /-- The Setting Table takes INTENT with sub-action DROP (R18). -/
  | intentDrop
  /-- DEFAULTS from the link (R43). -/
  | defaults
  /-- FORCE from the link (R87). -/
  | force
  /-- The Storage Engine takes STORE (R146, R147). -/
  | store
  /-- The Storage Engine takes RECALL (R146, R150). -/
  | recall
  /-- The Storage Engine takes ERASE (R146, R152). -/
  | erase
  /-- The Storage Engine answers DIRECTORY (R143). -/
  | directory
  /-- The Storage Engine answers STORAGE STATUS (R145). -/
  | storageStatus
  /-- The Storage Engine takes PROTECT (R153). -/
  | protect
  /-- The Fault Unit answers FAULTS READ (R171). -/
  | faultsRead
  /-- The Fault Unit takes FAULTS CLEAR (R172). -/
  | faultsClear
  /-- The Fault Unit takes FAULTS SETUP (R173). -/
  | faultsSetup
  /-- One scan: bit k of `keys` is key k's raw reading, bit k of `pushes` that of K<k>'s push switch; 1 is down (R44, R58). -/
  | keyScan (keys : BitVec 40) (pushes : BitVec 12)
  /-- The table takes the oldest waiting press action of one key (R50). -/
  | pressAction (key : Fin 40)
  /-- A held STEP key's repeat target time arrives (R52). -/
  | repeatTargetExpiry (key : Fin 40)
  /-- One sample of the quadrature lines: bit k of `a` and of `b` are the levels of K<k>'s lines (R53). -/
  | knobSample (a : BitVec 12) (b : BitVec 12)
  /-- The table takes the oldest waiting detent of one knob (R57). -/
  | detent (knob : Fin 12)
  /-- The table takes the oldest waiting push action of one knob (R58). -/
  | push (knob : Fin 12)
  /-- One PWM period of the lamps; bit k of `opens` is 1 where lamp k, if it is sensed, reads open (R62, R64). -/
  | lampPwmPeriod (opens : BitVec 24)
  /-- A 75,000 us phase of one lamp's error blink ends (R63). -/
  | errorBlinkPhase (lamp : Fin 24)
  /-- The flash clock changes between its lit and dark halves (R61). -/
  | flashClockPhase
  /-- The table takes a waiting event of owner run (R86). -/
  | ownerRunEvent
  /-- The table takes a waiting event of owner fault (R170). -/
  | ownerFaultEvent
  /-- A message of kind ACK arrives at the Capture Port (R95); `msg` is the whole message, its CRC included. -/
  | ack (msg : List Byte)
  /-- A message of kind REDUCE data arrives (R95). -/
  | reduceData (msg : List Byte)
  /-- A message of kind HELLO arrives (R97). -/
  | hello (msg : List Byte)
  /-- A message of kind PREFILLED arrives (R84). -/
  | prefilled (msg : List Byte)
  /-- A message of kind TRIGGERED arrives (R85). -/
  | triggered (msg : List Byte)
  /-- A message of kind COMPLETE arrives (R86). -/
  | complete (msg : List Byte)
  /-- A message of kind FAULT arrives (R98). -/
  | faultNotice (msg : List Byte)
  /-- The outstanding request's answer deadline passes (R96). -/
  | portFailure
  /-- The QUERY retry time arrives (R97). -/
  | queryRetry
  /-- 500,000 us have passed since the end of a reset with no HELLO (R97). -/
  | captureLate
  /-- The auto timer's target time arrives (R88). -/
  | autoTimerExpiry
  /-- The Composer starts a frame (R105). -/
  | frameStart
  /-- The drawing of the frame finishes (R106). -/
  | frameEnd
  /-- The vertical blank between two displayed frames (R102). -/
  | verticalBlank
  /-- A period of the backlight output begins (R115). -/
  | backlightPwmPeriod
  /-- The flash reports ready after a reset and its identification is read (R139). -/
  | flashDetection (id0 : Byte) (id1 : Byte) (id2 : Byte)
  /-- The flash does not report ready within 2,000 ms at detection (R139). -/
  | flashReadyTimeout
  /-- All 32 slots have been read; `sectors` are their contents, slot 0 first (R154). -/
  | startUpScan (sectors : List (List Byte))
  /-- The flash status after a STORE's erase; `sector` is what the engine reads back when the erase failed (R148, R149). -/
  | storeEraseDone (status : Byte) (sector : List Byte)
  /-- The STORE's erase is not finished in its 2,000 ms (R148). -/
  | storeEraseTimeout
  /-- The flash status after a page program; `sector` is what the engine reads back when it failed (R148, R149). -/
  | pageProgramDone (status : Byte) (sector : List Byte)
  /-- A page is not finished in its 10 ms (R148). -/
  | pageProgramTimeout
  /-- The whole sector has been read back after a STORE (R149). -/
  | verify (sector : List Byte)
  /-- The slot's sector has been read for a recall (R150). -/
  | recallRead (sector : List Byte)
  /-- The flash is not ready within 2,000 ms before the READ (R150). -/
  | recallReadyTimeout
  /-- The table takes the recall's submitted event (R151). -/
  | apply
  /-- The flash status after an ERASE's erase; `sector` is what the engine reads back when it failed (R152). -/
  | slotEraseDone (status : Byte) (sector : List Byte)
  /-- The ERASE is not finished in its 2,000 ms (R152). -/
  | slotEraseTimeout
  /-- RESETn returns high or power-on reset is released (R167). -/
  | resetEnd
  /-- The flash reports ready while the operation in hand waits for it (R149). -/
  | flashReportsReady
  deriving DecidableEq, Repr

end Sys2Proof
end

