-- ==== Sys2Proof/Decode.lean ====
section
/-! DEFINITION. The command a table word spells: spec/opcode_table.json gives no row any bits. -/

namespace Sys2Proof

/-- The command that the bits of a table word spell. No row of spec/opcode_table.json has bits ("fields" is empty in all 65), so no
word spells a command (log 1). The frames and messages that do have bytes are read in
Machine/Codec.lean. -/
def decodeTableWord (_nbits _w : Nat) : Option Instr := none

end Sys2Proof
end

