-- ==== Sys2Proof/Config.lean ====
section
/-! DEFINITION. What this manual leaves to the part: the shapes of the built-in font, and what an ADC code outside its range maps to. -/

namespace Sys2Proof

/-- The shape of the built-in font: whether the pixel at (row 0-15, column 0-7) of a character's cell is lit. The glyph shapes
are outside the manual (R100), so this is a FREE VALUE with no body: nothing may be proved of a particular shape (log 11). -/
opaque Config.glyphLit : Char → Nat → Nat → Bool

/-- What a code above 4,095 in an answer of the capture controller is rescaled to. R120 gives codes 0 to 4,095 and the field holds
16 bits, so this is a FREE VALUE with no body (log 40). -/
opaque Config.codeBeyondRange : Nat → Int

end Sys2Proof
end

