-- ==== Sys2Proof/Machine/Vocabulary.lean ====
section
/-! DEFINITION. The manual's names: enumerated sets, classes, fields, record keys and values. The members of every enumerated set
stand in the order the manual lists them, and `positions` is that order (12_formats: "the member's position, from 0"). -/

namespace Sys2Proof.Machine

/-- CHANNEL.coupling (R25). -/
inductive Coupling where
  | dc | ac | gnd
  deriving DecidableEq, Repr

/-- CHANNEL.bandwidth (R25). -/
inductive Bandwidth where
  | full | limited
  deriving DecidableEq, Repr

/-- CHANNEL.display and DISPLAY.readouts (R25, R35). -/
inductive OnOff where
  | on | off
  deriving DecidableEq, Repr

/-- The channel names of R21; a 2-channel build has the first two. -/
inductive ChannelName where
  | ch1 | ch2 | ch3 | ch4
  deriving DecidableEq, Repr

/-- TRIGGER.source (R32). -/
inductive TrigSource where
  | channel (c : ChannelName) | ext | line
  deriving DecidableEq, Repr

/-- TRIGGER.slope (R32). -/
inductive Slope where
  | rise | fall | either
  deriving DecidableEq, Repr

/-- TRIGGER.coupling (R32). -/
inductive TrigCoupling where
  | dc | ac | hfReject | noiseReject
  deriving DecidableEq, Repr

/-- TRIGGER.mode (R32). -/
inductive TrigMode where
  | auto | normal
  deriving DecidableEq, Repr

/-- ACQUIRE.run_state (R34). -/
inductive RunState where
  | stop | run | single
  deriving DecidableEq, Repr

/-- ACQUIRE.acq_mode (R34). -/
inductive AcqMode where
  | sample | peak
  deriving DecidableEq, Repr

/-- The Run Controller's states, ACQUIRE.acq_state, in the order of R79's table. -/
inductive AcqState where
  | offline | stopped | waitBank | arming | ready | triggered
  deriving DecidableEq, Repr

/-- ACQUIRE.trig_status (R79). -/
inductive TrigStatus where
  | waiting | triggered | forced | auto
  deriving DecidableEq, Repr

/-- DISPLAY.graticule (R35). -/
inductive Graticule where
  | full | axes | frame
  deriving DecidableEq, Repr

/-- DISPLAY.draw (R35). -/
inductive DrawStyle where
  | vector | dots
  deriving DecidableEq, Repr

/-- The Storage Engine's states, SYSTEM.store_state (R38, R144). -/
inductive StoreState where
  | absent | scanning | idle | storing | recalling | erasing
  deriving DecidableEq, Repr

/-- CURSOR.kind (R39). -/
inductive CursorKind where
  | time | voltage
  deriving DecidableEq, Repr

/-- MEASUREMENT.kind (R40). -/
inductive MeasKind where
  | frequency | period | pkPk | amplitude | mean | rms | max | min | rise | fall | posWidth | negWidth
  deriving DecidableEq, Repr

/-- MEASUREMENT.status (R40). -/
inductive MeasStatus where
  | none | valid | stale
  deriving DecidableEq, Repr

/-- KEYBIND.action (R49). -/
inductive KeyAction where
  | toggle | stepUp | stepDown | cycle | setValue | runToggle | force | defaults | returnLocal | focus | host | none
  deriving DecidableEq, Repr

/-- LAMPBIND.mode (R60). -/
inductive LampMode where
  | onEqual | onNotEqual | blinkEqual
  deriving DecidableEq, Repr

def Coupling.positions : List Coupling := [.dc, .ac, .gnd]
def Bandwidth.positions : List Bandwidth := [.full, .limited]
def OnOff.positions : List OnOff := [.on, .off]
def ChannelName.positions : List ChannelName := [.ch1, .ch2, .ch3, .ch4]
def TrigSource.positions : List TrigSource :=
  [.channel .ch1, .channel .ch2, .channel .ch3, .channel .ch4, .ext, .line]
def Slope.positions : List Slope := [.rise, .fall, .either]
def TrigCoupling.positions : List TrigCoupling := [.dc, .ac, .hfReject, .noiseReject]
def TrigMode.positions : List TrigMode := [.auto, .normal]
def RunState.positions : List RunState := [.stop, .run, .single]
def AcqMode.positions : List AcqMode := [.sample, .peak]
def AcqState.positions : List AcqState := [.offline, .stopped, .waitBank, .arming, .ready, .triggered]
def TrigStatus.positions : List TrigStatus := [.waiting, .triggered, .forced, .auto]
def Graticule.positions : List Graticule := [.full, .axes, .frame]
def DrawStyle.positions : List DrawStyle := [.vector, .dots]
def StoreState.positions : List StoreState := [.absent, .scanning, .idle, .storing, .recalling, .erasing]
def CursorKind.positions : List CursorKind := [.time, .voltage]
def MeasKind.positions : List MeasKind :=
  [.frequency, .period, .pkPk, .amplitude, .mean, .rms, .max, .min, .rise, .fall, .posWidth, .negWidth]
def MeasStatus.positions : List MeasStatus := [.none, .valid, .stale]
def KeyAction.positions : List KeyAction :=
  [.toggle, .stepUp, .stepDown, .cycle, .setValue, .runToggle, .force, .defaults, .returnLocal, .focus, .host, .none]
def LampMode.positions : List LampMode := [.onEqual, .onNotEqual, .blinkEqual]

/-- The channel's number, 1-4. -/
def ChannelName.number : ChannelName → Nat
  | .ch1 => 1
  | .ch2 => 2
  | .ch3 => 3
  | .ch4 => 4

/-- The record classes, in class order (01_the_setting_table, "Records and keys"). -/
inductive Cls where
  | channel | timebase | trigger | acquire | display | panel | menu | system | keybind | lampbind | cursor
  | measurement | annotation
  deriving DecidableEq, Repr

/-- The classes in class order; class numbers count from 1 (12_formats). -/
def Cls.order : List Cls :=
  [.channel, .timebase, .trigger, .acquire, .display, .panel, .menu, .system, .keybind, .lampbind, .cursor,
   .measurement, .annotation]

/-- The class number, 1-13 (12_formats). -/
def Cls.number (c : Cls) : Nat := Cls.order.idxOf c + 1

/-- The class of a class number; none outside 1-13 (R175). -/
def Cls.ofNumber (n : Nat) : Option Cls := if n = 0 then none else Cls.order[n - 1]?

/-- CURSOR, MEASUREMENT and ANNOTATION records are dynamic, the others fixed (R9). -/
def Cls.dynamic : Cls → Bool
  | .cursor | .measurement | .annotation => true
  | .channel | .timebase | .trigger | .acquire | .display | .panel | .menu | .system | .keybind | .lampbind => false

/-- The instance numbers of a class, ascending, in a 4-channel build ("Records and keys"). -/
def Cls.instances : Cls → List Nat
  | .channel => [1, 2, 3, 4]
  | .timebase | .trigger | .acquire | .display | .panel | .menu | .system => [1]
  | .keybind => List.range 40
  | .lampbind => List.range 24
  | .cursor => [1, 2, 3, 4]
  | .measurement | .annotation => [1, 2, 3, 4, 5, 6, 7, 8]

/-- A record key: class and instance. -/
structure RecKey where
  cls  : Cls
  inst : Nat
  deriving DecidableEq, Repr

/-- Class order and then instance order: the order in which the table lists records. -/
def RecKey.before (k l : RecKey) : Bool :=
  k.cls.number < l.cls.number || (k.cls.number == l.cls.number && k.inst < l.inst)

/-- The fields of all the classes. -/
inductive Field where
  | chProbe | chFine | chScale | chOffset | chCoupling | chBandwidth | chDisplay | chInvert | chLabel | chColour | chGuard
  | tbScale | tbPosition | tbLength | tbGuard
  | trSource | trSlope | trLevel | trCoupling | trMode | trHoldoff | trGuard
  | acRunState | acAcqMode | acGuard | acBasePs | acIntervalPs | acLengthEff | acPreCount | acDelayCount
  | acAcqState | acTrigStatus | acAcqCount
  | diGraticule | diDraw | diBacklight | diLampCoarse | diLampFine | diReadouts | diGuard
  | paAuthority | paLocalLockout | paFocus | paAccel | paDebounceMs | paKnobEdges | paHostKeys
  | meTitle | meSoft1 | meSoft2 | meSoft3 | meSoft4 | meSoft5 | meSoft6 | meSoft7 | meHighlight
  | syBuildChannels | syStorePresent | syStoreState | syCaptureOnline
  | kbAction | kbTarget | kbArgument
  | lbTarget | lbValue | lbMode | lbDiag
  | cuKind | cuSource | cuA | cuB | cuShown | cuGuard
  | msKind | msSource | msValue | msStatus | msAcq | msGuard
  | anText | anColumn | anRow | anColour
  deriving DecidableEq, Repr

/-- The fields of a class: first its field order (R24), then its further identifiers (12_formats). A field identifier is the
position in this list, counting from 1. -/
def Cls.fields : Cls → List Field
  | .channel => [.chProbe, .chFine, .chScale, .chOffset, .chCoupling, .chBandwidth, .chDisplay, .chInvert, .chLabel,
      .chColour, .chGuard]
  | .timebase => [.tbScale, .tbPosition, .tbLength, .tbGuard]
  | .trigger => [.trSource, .trSlope, .trLevel, .trCoupling, .trMode, .trHoldoff, .trGuard]
  | .acquire => [.acRunState, .acAcqMode, .acGuard, .acBasePs, .acIntervalPs, .acLengthEff, .acPreCount, .acDelayCount,
      .acAcqState, .acTrigStatus, .acAcqCount]
  | .display => [.diGraticule, .diDraw, .diBacklight, .diLampCoarse, .diLampFine, .diReadouts, .diGuard]
  | .panel => [.paAuthority, .paLocalLockout, .paFocus, .paAccel, .paDebounceMs, .paKnobEdges, .paHostKeys]
  | .menu => [.meTitle, .meSoft1, .meSoft2, .meSoft3, .meSoft4, .meSoft5, .meSoft6, .meSoft7, .meHighlight]
  | .system => [.syBuildChannels, .syStorePresent, .syStoreState, .syCaptureOnline]
  | .keybind => [.kbAction, .kbTarget, .kbArgument]
  | .lampbind => [.lbTarget, .lbValue, .lbMode, .lbDiag]
  | .cursor => [.cuKind, .cuSource, .cuA, .cuB, .cuShown, .cuGuard]
  | .measurement => [.msKind, .msSource, .msValue, .msStatus, .msAcq, .msGuard]
  | .annotation => [.anText, .anColumn, .anRow, .anColour]

/-- The field an identifier names in a class; none for 0 or one beyond the last (R175). -/
def Cls.field (c : Cls) (id : Nat) : Option Field := if id = 0 then none else c.fields[id - 1]?

/-- The field's class. -/
def Field.cls : Field → Cls
  | .chProbe | .chFine | .chScale | .chOffset | .chCoupling | .chBandwidth | .chDisplay | .chInvert | .chLabel
  | .chColour | .chGuard => .channel
  | .tbScale | .tbPosition | .tbLength | .tbGuard => .timebase
  | .trSource | .trSlope | .trLevel | .trCoupling | .trMode | .trHoldoff | .trGuard => .trigger
  | .acRunState | .acAcqMode | .acGuard | .acBasePs | .acIntervalPs | .acLengthEff | .acPreCount | .acDelayCount
  | .acAcqState | .acTrigStatus | .acAcqCount => .acquire
  | .diGraticule | .diDraw | .diBacklight | .diLampCoarse | .diLampFine | .diReadouts | .diGuard => .display
  | .paAuthority | .paLocalLockout | .paFocus | .paAccel | .paDebounceMs | .paKnobEdges | .paHostKeys => .panel
  | .meTitle | .meSoft1 | .meSoft2 | .meSoft3 | .meSoft4 | .meSoft5 | .meSoft6 | .meSoft7 | .meHighlight => .menu
  | .syBuildChannels | .syStorePresent | .syStoreState | .syCaptureOnline => .system
  | .kbAction | .kbTarget | .kbArgument => .keybind
  | .lbTarget | .lbValue | .lbMode | .lbDiag => .lampbind
  | .cuKind | .cuSource | .cuA | .cuB | .cuShown | .cuGuard => .cursor
  | .msKind | .msSource | .msValue | .msStatus | .msAcq | .msGuard => .measurement
  | .anText | .anColumn | .anRow | .anColour => .annotation

/-- The field's identifier in its class, from 1 (12_formats). -/
def Field.ident (f : Field) : Nat := f.cls.fields.idxOf f + 1

/-- A record key and a field of that record. -/
structure Ref where
  key   : RecKey
  field : Field
  deriving DecidableEq, Repr

/-- The kind of a field (R2). -/
inductive FieldKind where
  | plan | live | view | derived | status | guard
  deriving DecidableEq, Repr

/-- The kind of each field: R25, R31, R32, R34, R35 and R72 field by field, R2 by class. -/
def Field.kind : Field → FieldKind
  | .chProbe | .chFine | .chScale | .chOffset | .chCoupling | .chBandwidth | .chDisplay => .plan
  | .chInvert | .chLabel | .chColour => .view
  | .tbScale | .tbPosition | .tbLength => .plan
  | .trSource => .plan
  | .trSlope | .trLevel | .trCoupling | .trMode | .trHoldoff => .live
  | .acRunState | .acAcqMode => .plan
  | .acBasePs | .acIntervalPs | .acLengthEff | .acPreCount | .acDelayCount => .derived
  | .acAcqState | .acTrigStatus | .acAcqCount => .status
  | .diGraticule | .diDraw | .diBacklight | .diLampCoarse | .diLampFine | .diReadouts => .view
  | .paAuthority | .paLocalLockout | .paFocus | .paAccel | .paDebounceMs | .paKnobEdges | .paHostKeys => .view
  | .meTitle | .meSoft1 | .meSoft2 | .meSoft3 | .meSoft4 | .meSoft5 | .meSoft6 | .meSoft7 | .meHighlight => .view
  | .syBuildChannels | .syStorePresent | .syStoreState | .syCaptureOnline => .status
  | .kbAction | .kbTarget | .kbArgument => .view
  | .lbTarget | .lbValue | .lbMode | .lbDiag => .view
  | .cuKind | .cuSource | .cuA | .cuB | .cuShown => .view
  | .msKind | .msSource | .msValue | .msStatus | .msAcq => .view
  | .anText | .anColumn | .anRow | .anColour => .view
  | .chGuard | .tbGuard | .trGuard | .acGuard | .diGuard | .cuGuard | .msGuard => .guard

/-- A field that an application event stamps and marks when it alters it: every kind but STATUS (R2). -/
def Field.stamped (f : Field) : Bool := f.kind != .status

/-- The sort of a field's value (R21, 12_formats). `enumerated n` has n members; `argument` is the sort of KEYBIND.argument and
LAMPBIND.value, which carry a value of their target's sort. -/
inductive FieldSort where
  | number | enumerated (members : Nat) | truth | text | optNumber | reference | edges | keySet | argument
  deriving DecidableEq, Repr

/-- The sort of each field. -/
def Field.sort : Field → FieldSort
  | .chProbe | .chScale | .chOffset | .chColour => .number
  | .chFine | .chInvert => .truth
  | .chCoupling => .enumerated 3
  | .chBandwidth | .chDisplay => .enumerated 2
  | .chLabel => .text
  | .tbScale | .tbPosition | .tbLength => .number
  | .trSource => .enumerated 6
  | .trSlope => .enumerated 3
  | .trLevel => .optNumber
  | .trCoupling => .enumerated 4
  | .trMode => .enumerated 2
  | .trHoldoff => .number
  | .acRunState => .enumerated 3
  | .acAcqMode => .enumerated 2
  | .acBasePs | .acIntervalPs | .acLengthEff | .acPreCount | .acDelayCount | .acAcqCount => .number
  | .acAcqState => .enumerated 6
  | .acTrigStatus => .enumerated 4
  | .diGraticule => .enumerated 3
  | .diDraw | .diReadouts => .enumerated 2
  | .diBacklight | .diLampCoarse | .diLampFine => .number
  | .paAuthority | .paDebounceMs => .number
  | .paLocalLockout | .paAccel => .truth
  | .paFocus => .reference
  | .paKnobEdges => .edges
  | .paHostKeys => .keySet
  | .meTitle | .meSoft1 | .meSoft2 | .meSoft3 | .meSoft4 | .meSoft5 | .meSoft6 | .meSoft7 => .text
  | .meHighlight => .number
  | .syBuildChannels => .number
  | .syStorePresent | .syCaptureOnline => .truth
  | .syStoreState => .enumerated 6
  | .kbAction => .enumerated 12
  | .kbTarget => .reference
  | .kbArgument => .argument
  | .lbTarget => .reference
  | .lbValue => .argument
  | .lbMode => .enumerated 3
  | .lbDiag => .truth
  | .cuKind => .enumerated 2
  | .cuSource => .enumerated 4
  | .cuA | .cuB => .number
  | .cuShown => .truth
  | .msKind => .enumerated 12
  | .msSource => .enumerated 4
  | .msValue => .optNumber
  | .msStatus => .enumerated 3
  | .msAcq => .number
  | .anText => .text
  | .anColumn | .anRow | .anColour => .number
  | .chGuard | .tbGuard | .trGuard | .acGuard | .diGuard | .cuGuard | .msGuard => .number

/-- A value of a field. `absent` is the absent value of an optional field, and NONE of a reference; `present v` is an argument that
is not absent. -/
inductive Value where
  | num (n : Int)
  | enum (pos : Nat)
  | truth (b : Bool)
  | text (t : Text)
  | absent
  | ref (r : Ref)
  | edges (l : List Nat)
  | keys (l : List Nat)
  | present (v : Value)
  deriving DecidableEq, Repr

/-- The focusable fields, which the focus knob K11 can move (R36). -/
def Field.focusable : Field → Bool
  | .chScale | .chOffset | .tbScale | .tbPosition | .trLevel | .trHoldoff | .cuA | .cuB => true
  | _ => false

/-- The fields the panel may write: those of CHANNEL, TIMEBASE, TRIGGER, ACQUIRE, DISPLAY, CURSOR and MEASUREMENT other than
guards, DERIVED and STATUS fields (R49). -/
def Field.panelWritable (f : Field) : Bool :=
  (match f.cls with
   | .channel | .timebase | .trigger | .acquire | .display | .cursor | .measurement => true
   | .panel | .menu | .system | .keybind | .lampbind | .annotation => false)
  && (match f.kind with
   | .plan | .live | .view => true
   | .derived | .status | .guard => false)

/-- A control of the panel: a key or a knob (R16). -/
inductive Control where
  | key (k : Fin 40)
  | knob (k : Fin 12)
  deriving DecidableEq, Repr

/-- What a panel action asks: a key's bound action, a knob detent or a knob push (R16). -/
inductive ActionKind where
  | key (a : KeyAction)
  | detent
  | push
  deriving DecidableEq, Repr

/-- The owner of an application event (01_the_setting_table, "Application events"). -/
inductive Owner where
  | panel | link | recall | defaults | run | fault
  deriving DecidableEq, Repr

/-- The per-field outcomes of R6, in the order of 12_formats. -/
inductive FieldOutcome where
  | applied | clamped | snapped | unchanged
  deriving DecidableEq, Repr

def FieldOutcome.positions : List FieldOutcome := [.applied, .clamped, .snapped, .unchanged]

/-- The two capture banks (R80). -/
inductive Bank where
  | a | b
  deriving DecidableEq, Repr

/-- The other bank. -/
def Bank.other : Bank → Bank
  | .a => .b
  | .b => .a

/-- The eight fault classes in the order of R168's table. -/
inductive FaultClass where
  | linkFrame | encoderGlitch | lampOpen | captureTimeout | captureReported | storeFail | imageDamaged | captureLate
  deriving DecidableEq, Repr

def FaultClass.positions : List FaultClass :=
  [.linkFrame, .encoderGlitch, .lampOpen, .captureTimeout, .captureReported, .storeFail, .imageDamaged, .captureLate]

end Sys2Proof.Machine
end

