-- ==== Sys2Proof/Machine/Records.lean ====
section
/-! DEFINITION. The records of the Setting Table and the table itself, as plain data (01_the_setting_table, 02_settings_and_their_ranges). -/

namespace Sys2Proof.Machine

/-- A CHANNEL record (R25). -/
structure Channel where
  probe     : Int
  fine      : Bool
  scale     : Int
  offset    : Int
  coupling  : Coupling
  bandwidth : Bandwidth
  display   : OnOff
  invert    : Bool
  label     : Option Text
  colour    : Nat
  guard     : Nat
  deriving DecidableEq, Repr

/-- The TIMEBASE record (R31). -/
structure Timebase where
  scale    : Int
  position : Int
  length   : Int
  guard    : Nat
  deriving DecidableEq, Repr

/-- The TRIGGER record (R32). The level is absent while the source is LINE. -/
structure Trigger where
  source   : TrigSource
  slope    : Slope
  level    : Option Int
  coupling : TrigCoupling
  mode     : TrigMode
  holdoff  : Int
  guard    : Nat
  deriving DecidableEq, Repr

/-- The ACQUIRE record: settable fields (R34), DERIVED fields (R72), STATUS fields (R79). `acqState` is also the Run Controller's
own state, which R79 has written here at each change (log 32). -/
structure Acquire where
  runState   : RunState
  acqMode    : AcqMode
  guard      : Nat
  basePs     : Int
  intervalPs : Int
  lengthEff  : Int
  preCount   : Int
  delayCount : Int
  acqState   : AcqState
  trigStatus : TrigStatus
  acqCount   : BitVec 32
  deriving DecidableEq, Repr

/-- The DISPLAY record (R35). -/
structure Display where
  graticule  : Graticule
  draw       : DrawStyle
  backlight  : Nat
  lampCoarse : Nat
  lampFine   : Nat
  readouts   : OnOff
  guard      : Nat
  deriving DecidableEq, Repr

/-- The PANEL record (R36). `hostKeys` holds its key numbers in ascending order. -/
structure Panel where
  authority    : Nat
  localLockout : Bool
  focus        : Option Ref
  accel        : Bool
  debounceMs   : Nat
  knobEdges    : List Nat
  hostKeys     : List Nat
  deriving DecidableEq, Repr

/-- The MENU record (R37); `soft` holds soft1 to soft7. -/
structure Menu where
  title     : Option Text
  soft      : List (Option Text)
  highlight : Nat
  deriving DecidableEq, Repr

/-- The SYSTEM record (R38). `storeState` and `captureOnline` are also the Storage Engine's and the Capture Port's own states (log 32). -/
structure SystemRec where
  buildChannels : Nat
  storePresent  : Bool
  storeState    : StoreState
  captureOnline : Bool
  deriving DecidableEq, Repr

/-- A KEYBIND record (R49). -/
structure Keybind where
  action   : KeyAction
  target   : Option Ref
  argument : Option Value
  deriving DecidableEq, Repr

/-- A LAMPBIND record (R60). -/
structure Lampbind where
  target : Option Ref
  value  : Option Value
  mode   : LampMode
  diag   : Bool
  deriving DecidableEq, Repr

/-- A CURSOR record (R39). -/
structure Cursor where
  kind   : CursorKind
  source : ChannelName
  a      : Int
  b      : Int
  shown  : Bool
  guard  : Nat
  deriving DecidableEq, Repr

/-- A MEASUREMENT record (R40). -/
structure Measurement where
  kind   : MeasKind
  source : ChannelName
  value  : Option Int
  status : MeasStatus
  acq    : Int
  guard  : Nat
  deriving DecidableEq, Repr

/-- An ANNOTATION record (R41). -/
structure Annotation where
  text   : Text
  column : Nat
  row    : Nat
  colour : Nat
  deriving DecidableEq, Repr

/-- A pending intent (R16): who asked, what, for which field, a detent total, and the argument of a SET_VALUE. -/
structure Intent where
  control : Control
  kind    : ActionKind
  field   : Field
  total   : Int
  arg     : Option Value
  deriving DecidableEq, Repr

/-- The Setting Table (01_the_setting_table): the records, the change counter and one stamp per record, the change set and the
retired set, at most one pending intent per record. A channel exists when `channels` has an entry for it, a dynamic record when its
place in its list is filled; the pool of 16 slots is those places. Key lists and the two maps stand in class order, then instance
order, each key once. -/
structure Table where
  channels     : List Channel
  timebase     : Timebase
  trigger      : Trigger
  acquire      : Acquire
  display      : Display
  panel        : Panel
  menu         : Menu
  system       : SystemRec
  keybinds     : List Keybind
  lampbinds    : List Lampbind
  cursors      : List (Option Cursor)
  measurements : List (Option Measurement)
  annotations  : List (Option Annotation)
  counter      : Stamp
  stamps       : List (RecKey × Stamp)
  changeSet    : List RecKey
  retired      : List RecKey
  intents      : List (RecKey × Intent)
  deriving DecidableEq, Repr

end Sys2Proof.Machine
end

