-- ==== Sys2Proof/Machine/Arith.lean ====
section
/-! DEFINITION. The manual's arithmetic: rounding words, clamping, the 1-2-5 sequences, times of the 32-bit time base, and the ordered
lists of record keys. -/

namespace Sys2Proof.Machine

/-- floor(n / d) for d > 0 (04_acquisition_planning, "Rounding words"). -/
def floorDiv (n d : Int) : Int := n / d

/-- ceiling(n / d) for d > 0. -/
def ceilDiv (n d : Int) : Int := -((-n) / d)

/-- round(n / d): the nearest integer, halves away from zero. -/
def roundDiv (n d : Int) : Int :=
  let m : Int := (2 * n.natAbs + d.natAbs) / (2 * d.natAbs)
  if n < 0 ↔ d < 0 then m else -m

/-- A number brought to the nearer limit of a range (R21). -/
def clampTo (lo hi v : Int) : Int := if v < lo then lo else if hi < v then hi else v

/-- The flag of a value brought into a range: CLAMPED when it lay outside, else APPLIED (R6). -/
def clampFlag (lo hi v : Int) : FieldOutcome := if v < lo ∨ hi < v then .clamped else .applied

/-- `n` steps of a 1-2-5 sequence that starts at `base` (R23). -/
def steps125 (base : Int) (n : Nat) : List Int :=
  (List.range n).map fun i => base * 10 ^ (i / 3) * (if i % 3 = 0 then 1 else if i % 3 = 1 then 2 else 5)

/-- The coarse sequence of CHANNEL.scale: 13 steps from 1,000 x probe (R23). -/
def channelSteps (probe : Int) : List Int := steps125 (1000 * probe) 13

/-- The sequence of TIMEBASE.scale: 33 steps from 1,000 ps (R23). -/
def timebaseSteps : List Int := steps125 1000 33

/-- The step nearest to `v` by absolute difference, a halfway value going to the larger (R23). -/
def nearestStep (steps : List Int) (v : Int) : Int :=
  match steps with
  | [] => v
  | s :: rest => rest.foldl (fun best t => if (v - t).natAbs ≤ (v - best).natAbs then t else best) s

/-- A value brought onto a sequence: clamped to its ends, else snapped to the nearest step (R23). -/
def ontoSequence (steps : List Int) (v : Int) : Int × FieldOutcome :=
  let lo := steps.headD v
  let hi := steps.getLastD v
  if v < lo then (lo, .clamped)
  else if hi < v then (hi, .clamped)
  else if v ∈ steps then (v, .applied)
  else (nearestStep steps v, .snapped)

/-- The lowest step at or above `v`; the last step where there is none (R27). -/
def stepAtOrAbove (steps : List Int) (v : Int) : Int := (steps.find? fun s => v ≤ s).getD (steps.getLastD v)

/-- The neighbouring step upwards or downwards, or the value held at the end of the sequence (R23, R55). -/
def neighbourStep (steps : List Int) (up : Bool) (v : Int) : Int :=
  if up then (steps.find? fun s => v < s).getD v
  else (steps.reverse.find? fun s => s < v).getD v

/-- `t` lies ahead of `now` on the wrapping time base: less than half its range away. -/
def ahead (t now : Time) : Bool := decide (0 < (t - now).toInt)

/-- A time `us` microseconds after `now`. -/
def after (now : Time) (us : Nat) : Time := now + BitVec.ofNat 32 us

/-- The change counter's next value: it passes from its greatest value to 1 and does not take the value 0 (R5). -/
def nextStamp (c : Stamp) : Stamp := if c = BitVec.allOnes 48 then 1 else c + 1

/-- A key entered in an ordered set of record keys; a key already present stays present once (R11, R12). -/
def insertKey (k : RecKey) : List RecKey → List RecKey
  | [] => [k]
  | x :: xs => if k = x then x :: xs else if k.before x then k :: x :: xs else x :: insertKey k xs

/-- A key taken out of a set. -/
def eraseKey (k : RecKey) (l : List RecKey) : List RecKey := l.filter (· ≠ k)

/-- The entry of a key in an ordered map. -/
def findKey {α : Type} (k : RecKey) : List (RecKey × α) → Option α
  | [] => none
  | (x, v) :: xs => if k = x then some v else findKey k xs

/-- A key's entry set in an ordered map, replacing the one it had. -/
def setKey {α : Type} (k : RecKey) (v : α) : List (RecKey × α) → List (RecKey × α)
  | [] => [(k, v)]
  | (x, w) :: xs => if k = x then (k, v) :: xs else if k.before x then (k, v) :: (x, w) :: xs else (x, w) :: setKey k v xs

/-- A key's entry taken out of a map. -/
def dropKey {α : Type} (k : RecKey) (l : List (RecKey × α)) : List (RecKey × α) := l.filter fun p => p.1 ≠ k

/-- A number entered in an ascending set of numbers (PANEL.host_keys, R15). -/
def insertNat (n : Nat) : List Nat → List Nat
  | [] => [n]
  | x :: xs => if n = x then x :: xs else if n < x then n :: x :: xs else x :: insertNat n xs

end Sys2Proof.Machine
end

