-- ==== Sys2Proof/Machine/Fields.lean ====
section
/-! DEFINITION. Reading and writing one field of a record by its name, as LOOKUP, AMEND, lamps and bindings do, and which records exist. -/

namespace Sys2Proof.Machine

/-- A member of an enumerated set as a value: its position in the set's order (12_formats). -/
def enumValue {α : Type} [BEq α] (positions : List α) (x : α) : Value := .enum (positions.idxOf x)

/-- The member a value names, or `d` where it names none. -/
def memberOf {α : Type} (positions : List α) (v : Value) (d : α) : α :=
  match v with
  | .enum p => positions.getD p d
  | _ => d

/-- The number a value holds, or `d`. -/
def numOf (v : Value) (d : Int) : Int :=
  match v with
  | .num n => n
  | _ => d

/-- The number a value holds as a natural number, or `d`. -/
def natOf (v : Value) (d : Nat) : Nat :=
  match v with
  | .num n => n.toNat
  | _ => d

/-- The truth value a value holds, or `d`. -/
def truthOf (v : Value) (d : Bool) : Bool :=
  match v with
  | .truth b => b
  | _ => d

/-- The optional number a value holds, or `d`. -/
def optNumOf (v : Value) (d : Option Int) : Option Int :=
  match v with
  | .num n => some n
  | .absent => none
  | _ => d

/-- The optional text a value holds, or `d`: a text of length 0 makes the field absent (R22). -/
def optTextOf (v : Value) (d : Option Text) : Option Text :=
  match v with
  | .text [] => none
  | .text t => some t
  | .absent => none
  | _ => d

/-- The field reference a value holds, or `d`. -/
def refOf (v : Value) (d : Option Ref) : Option Ref :=
  match v with
  | .ref r => some r
  | .absent => none
  | _ => d

/-- The argument a value holds, or `d`. -/
def argOf (v : Value) (d : Option Value) : Option Value :=
  match v with
  | .present w => some w
  | .absent => none
  | _ => d

/-- An optional number as a value. -/
def ofOptNum : Option Int → Value
  | some n => .num n
  | none => .absent

/-- An optional text as a value. -/
def ofOptText : Option Text → Value
  | some t => .text t
  | none => .absent

/-- A field reference, or NONE, as a value. -/
def ofRef : Option Ref → Value
  | some r => .ref r
  | none => .absent

/-- An argument as a value. -/
def ofArg : Option Value → Value
  | some v => .present v
  | none => .absent

/-- The value of a CHANNEL field (R25). -/
def Channel.get (c : Channel) : Field → Value
  | .chProbe => .num c.probe
  | .chFine => .truth c.fine
  | .chScale => .num c.scale
  | .chOffset => .num c.offset
  | .chCoupling => enumValue Coupling.positions c.coupling
  | .chBandwidth => enumValue Bandwidth.positions c.bandwidth
  | .chDisplay => enumValue OnOff.positions c.display
  | .chInvert => .truth c.invert
  | .chLabel => ofOptText c.label
  | .chColour => .num c.colour
  | .chGuard => .num c.guard
  | _ => .absent

/-- A CHANNEL field set to a value of its sort. -/
def Channel.put (c : Channel) (f : Field) (v : Value) : Channel :=
  match f with
  | .chProbe => { c with probe := numOf v c.probe }
  | .chFine => { c with fine := truthOf v c.fine }
  | .chScale => { c with scale := numOf v c.scale }
  | .chOffset => { c with offset := numOf v c.offset }
  | .chCoupling => { c with coupling := memberOf Coupling.positions v c.coupling }
  | .chBandwidth => { c with bandwidth := memberOf Bandwidth.positions v c.bandwidth }
  | .chDisplay => { c with display := memberOf OnOff.positions v c.display }
  | .chInvert => { c with invert := truthOf v c.invert }
  | .chLabel => { c with label := optTextOf v c.label }
  | .chColour => { c with colour := natOf v c.colour }
  | .chGuard => { c with guard := natOf v c.guard }
  | _ => c

/-- The value of a TIMEBASE field (R31). -/
def Timebase.get (t : Timebase) : Field → Value
  | .tbScale => .num t.scale
  | .tbPosition => .num t.position
  | .tbLength => .num t.length
  | .tbGuard => .num t.guard
  | _ => .absent

/-- A TIMEBASE field set to a value of its sort. -/
def Timebase.put (t : Timebase) (f : Field) (v : Value) : Timebase :=
  match f with
  | .tbScale => { t with scale := numOf v t.scale }
  | .tbPosition => { t with position := numOf v t.position }
  | .tbLength => { t with length := numOf v t.length }
  | .tbGuard => { t with guard := natOf v t.guard }
  | _ => t

/-- The value of a TRIGGER field (R32). -/
def Trigger.get (t : Trigger) : Field → Value
  | .trSource => enumValue TrigSource.positions t.source
  | .trSlope => enumValue Slope.positions t.slope
  | .trLevel => ofOptNum t.level
  | .trCoupling => enumValue TrigCoupling.positions t.coupling
  | .trMode => enumValue TrigMode.positions t.mode
  | .trHoldoff => .num t.holdoff
  | .trGuard => .num t.guard
  | _ => .absent

/-- A TRIGGER field set to a value of its sort. -/
def Trigger.put (t : Trigger) (f : Field) (v : Value) : Trigger :=
  match f with
  | .trSource => { t with source := memberOf TrigSource.positions v t.source }
  | .trSlope => { t with slope := memberOf Slope.positions v t.slope }
  | .trLevel => { t with level := optNumOf v t.level }
  | .trCoupling => { t with coupling := memberOf TrigCoupling.positions v t.coupling }
  | .trMode => { t with mode := memberOf TrigMode.positions v t.mode }
  | .trHoldoff => { t with holdoff := numOf v t.holdoff }
  | .trGuard => { t with guard := natOf v t.guard }
  | _ => t

/-- The value of an ACQUIRE field (R34, R72, R79). -/
def Acquire.get (a : Acquire) : Field → Value
  | .acRunState => enumValue RunState.positions a.runState
  | .acAcqMode => enumValue AcqMode.positions a.acqMode
  | .acGuard => .num a.guard
  | .acBasePs => .num a.basePs
  | .acIntervalPs => .num a.intervalPs
  | .acLengthEff => .num a.lengthEff
  | .acPreCount => .num a.preCount
  | .acDelayCount => .num a.delayCount
  | .acAcqState => enumValue AcqState.positions a.acqState
  | .acTrigStatus => enumValue TrigStatus.positions a.trigStatus
  | .acAcqCount => .num a.acqCount.toNat
  | _ => .absent

/-- A settable ACQUIRE field set to a value of its sort; DERIVED and STATUS fields have writers of their own. -/
def Acquire.put (a : Acquire) (f : Field) (v : Value) : Acquire :=
  match f with
  | .acRunState => { a with runState := memberOf RunState.positions v a.runState }
  | .acAcqMode => { a with acqMode := memberOf AcqMode.positions v a.acqMode }
  | .acGuard => { a with guard := natOf v a.guard }
  | _ => a

/-- The value of a DISPLAY field (R35). -/
def Display.get (d : Display) : Field → Value
  | .diGraticule => enumValue Graticule.positions d.graticule
  | .diDraw => enumValue DrawStyle.positions d.draw
  | .diBacklight => .num d.backlight
  | .diLampCoarse => .num d.lampCoarse
  | .diLampFine => .num d.lampFine
  | .diReadouts => enumValue OnOff.positions d.readouts
  | .diGuard => .num d.guard
  | _ => .absent

/-- A DISPLAY field set to a value of its sort. -/
def Display.put (d : Display) (f : Field) (v : Value) : Display :=
  match f with
  | .diGraticule => { d with graticule := memberOf Graticule.positions v d.graticule }
  | .diDraw => { d with draw := memberOf DrawStyle.positions v d.draw }
  | .diBacklight => { d with backlight := natOf v d.backlight }
  | .diLampCoarse => { d with lampCoarse := natOf v d.lampCoarse }
  | .diLampFine => { d with lampFine := natOf v d.lampFine }
  | .diReadouts => { d with readouts := memberOf OnOff.positions v d.readouts }
  | .diGuard => { d with guard := natOf v d.guard }
  | _ => d

/-- The value of a PANEL field (R36). -/
def Panel.get (p : Panel) : Field → Value
  | .paAuthority => .num p.authority
  | .paLocalLockout => .truth p.localLockout
  | .paFocus => ofRef p.focus
  | .paAccel => .truth p.accel
  | .paDebounceMs => .num p.debounceMs
  | .paKnobEdges => .edges p.knobEdges
  | .paHostKeys => .keys p.hostKeys
  | _ => .absent

/-- A PANEL field set to a value of its sort. -/
def Panel.put (p : Panel) (f : Field) (v : Value) : Panel :=
  match f with
  | .paAuthority => { p with authority := natOf v p.authority }
  | .paLocalLockout => { p with localLockout := truthOf v p.localLockout }
  | .paFocus => { p with focus := refOf v p.focus }
  | .paAccel => { p with accel := truthOf v p.accel }
  | .paDebounceMs => { p with debounceMs := natOf v p.debounceMs }
  | .paKnobEdges =>
    match v with
    | .edges l => { p with knobEdges := l }
    | _ => p
  | .paHostKeys =>
    match v with
    | .keys l => { p with hostKeys := l }
    | _ => p
  | _ => p

/-- The place of a soft-key text in `Menu.soft`, from 0. -/
def Field.softIndex : Field → Option Nat
  | .meSoft1 => some 0
  | .meSoft2 => some 1
  | .meSoft3 => some 2
  | .meSoft4 => some 3
  | .meSoft5 => some 4
  | .meSoft6 => some 5
  | .meSoft7 => some 6
  | _ => none

/-- The value of a MENU field (R37). -/
def Menu.get (m : Menu) (f : Field) : Value :=
  match f.softIndex with
  | some i => ofOptText (m.soft.getD i none)
  | none =>
    match f with
    | .meTitle => ofOptText m.title
    | .meHighlight => .num m.highlight
    | _ => .absent

/-- A MENU field set to a value of its sort. -/
def Menu.put (m : Menu) (f : Field) (v : Value) : Menu :=
  match f.softIndex with
  | some i => { m with soft := m.soft.set i (optTextOf v (m.soft.getD i none)) }
  | none =>
    match f with
    | .meTitle => { m with title := optTextOf v m.title }
    | .meHighlight => { m with highlight := natOf v m.highlight }
    | _ => m

/-- The value of a SYSTEM field (R38). -/
def SystemRec.get (s : SystemRec) : Field → Value
  | .syBuildChannels => .num s.buildChannels
  | .syStorePresent => .truth s.storePresent
  | .syStoreState => enumValue StoreState.positions s.storeState
  | .syCaptureOnline => .truth s.captureOnline
  | _ => .absent

/-- The value of a KEYBIND field (R49). -/
def Keybind.get (k : Keybind) : Field → Value
  | .kbAction => enumValue KeyAction.positions k.action
  | .kbTarget => ofRef k.target
  | .kbArgument => ofArg k.argument
  | _ => .absent

/-- A KEYBIND field set to a value of its sort. -/
def Keybind.put (k : Keybind) (f : Field) (v : Value) : Keybind :=
  match f with
  | .kbAction => { k with action := memberOf KeyAction.positions v k.action }
  | .kbTarget => { k with target := refOf v k.target }
  | .kbArgument => { k with argument := argOf v k.argument }
  | _ => k

/-- The value of a LAMPBIND field (R60). -/
def Lampbind.get (l : Lampbind) : Field → Value
  | .lbTarget => ofRef l.target
  | .lbValue => ofArg l.value
  | .lbMode => enumValue LampMode.positions l.mode
  | .lbDiag => .truth l.diag
  | _ => .absent

/-- A LAMPBIND field set to a value of its sort. -/
def Lampbind.put (l : Lampbind) (f : Field) (v : Value) : Lampbind :=
  match f with
  | .lbTarget => { l with target := refOf v l.target }
  | .lbValue => { l with value := argOf v l.value }
  | .lbMode => { l with mode := memberOf LampMode.positions v l.mode }
  | .lbDiag => { l with diag := truthOf v l.diag }
  | _ => l

/-- The value of a CURSOR field (R39). -/
def Cursor.get (c : Cursor) : Field → Value
  | .cuKind => enumValue CursorKind.positions c.kind
  | .cuSource => enumValue ChannelName.positions c.source
  | .cuA => .num c.a
  | .cuB => .num c.b
  | .cuShown => .truth c.shown
  | .cuGuard => .num c.guard
  | _ => .absent

/-- A CURSOR field set to a value of its sort. -/
def Cursor.put (c : Cursor) (f : Field) (v : Value) : Cursor :=
  match f with
  | .cuKind => { c with kind := memberOf CursorKind.positions v c.kind }
  | .cuSource => { c with source := memberOf ChannelName.positions v c.source }
  | .cuA => { c with a := numOf v c.a }
  | .cuB => { c with b := numOf v c.b }
  | .cuShown => { c with shown := truthOf v c.shown }
  | .cuGuard => { c with guard := natOf v c.guard }
  | _ => c

/-- The value of a MEASUREMENT field (R40). -/
def Measurement.get (m : Measurement) : Field → Value
  | .msKind => enumValue MeasKind.positions m.kind
  | .msSource => enumValue ChannelName.positions m.source
  | .msValue => ofOptNum m.value
  | .msStatus => enumValue MeasStatus.positions m.status
  | .msAcq => .num m.acq
  | .msGuard => .num m.guard
  | _ => .absent

/-- A MEASUREMENT field set to a value of its sort. -/
def Measurement.put (m : Measurement) (f : Field) (v : Value) : Measurement :=
  match f with
  | .msKind => { m with kind := memberOf MeasKind.positions v m.kind }
  | .msSource => { m with source := memberOf ChannelName.positions v m.source }
  | .msValue => { m with value := optNumOf v m.value }
  | .msStatus => { m with status := memberOf MeasStatus.positions v m.status }
  | .msAcq => { m with acq := numOf v m.acq }
  | .msGuard => { m with guard := natOf v m.guard }
  | _ => m

/-- The value of an ANNOTATION field (R41). -/
def Annotation.get (a : Annotation) : Field → Value
  | .anText => .text a.text
  | .anColumn => .num a.column
  | .anRow => .num a.row
  | .anColour => .num a.colour
  | _ => .absent

/-- An ANNOTATION field set to a value of its sort. -/
def Annotation.put (a : Annotation) (f : Field) (v : Value) : Annotation :=
  match f with
  | .anText =>
    match v with
    | .text t => { a with text := t }
    | _ => a
  | .anColumn => { a with column := natOf v a.column }
  | .anRow => { a with row := natOf v a.row }
  | .anColour => { a with colour := natOf v a.colour }
  | _ => a

/-- Position `inst` of a list counted from 1: none for 0 and past the end. -/
def nth1 {α : Type} (l : List α) (inst : Nat) : Option α := if inst = 0 then none else l[inst - 1]?

/-- The dynamic record at an instance number, where it is present. -/
def nthPresent {α : Type} (l : List (Option α)) (inst : Nat) : Option α := (nth1 l inst).join

/-- The record exists in the table: built for a channel, created for a dynamic record (R1). -/
def Table.has (t : Table) (k : RecKey) : Bool :=
  match k.cls with
  | .channel => (nth1 t.channels k.inst).isSome
  | .timebase | .trigger | .acquire | .display | .panel | .menu | .system => k.inst == 1
  | .keybind => (t.keybinds[k.inst]?).isSome
  | .lampbind => (t.lampbinds[k.inst]?).isSome
  | .cursor => (nthPresent t.cursors k.inst).isSome
  | .measurement => (nthPresent t.measurements k.inst).isSome
  | .annotation => (nthPresent t.annotations k.inst).isSome

/-- The value of a field, where its record exists and has it. -/
def Table.get (t : Table) (r : Ref) : Option Value :=
  if r.field.cls ≠ r.key.cls then none
  else match r.key.cls with
  | .channel => (nth1 t.channels r.key.inst).map fun c => c.get r.field
  | .timebase => if r.key.inst = 1 then some (t.timebase.get r.field) else none
  | .trigger => if r.key.inst = 1 then some (t.trigger.get r.field) else none
  | .acquire => if r.key.inst = 1 then some (t.acquire.get r.field) else none
  | .display => if r.key.inst = 1 then some (t.display.get r.field) else none
  | .panel => if r.key.inst = 1 then some (t.panel.get r.field) else none
  | .menu => if r.key.inst = 1 then some (t.menu.get r.field) else none
  | .system => if r.key.inst = 1 then some (t.system.get r.field) else none
  | .keybind => (t.keybinds[r.key.inst]?).map fun k => k.get r.field
  | .lampbind => (t.lampbinds[r.key.inst]?).map fun l => l.get r.field
  | .cursor => (nthPresent t.cursors r.key.inst).map fun c => c.get r.field
  | .measurement => (nthPresent t.measurements r.key.inst).map fun m => m.get r.field
  | .annotation => (nthPresent t.annotations r.key.inst).map fun a => a.get r.field

/-- The place of instance `inst` of a list counted from 1 changed by `f`. -/
def modify1 {α : Type} (l : List α) (inst : Nat) (f : α → α) : List α :=
  if inst = 0 then l else l.modify (inst - 1) f

/-- A field of an existing record set to a value of its sort, with nothing else of the table touched. SYSTEM and the DERIVED and
STATUS fields of ACQUIRE have writers of their own. -/
def Table.put (t : Table) (r : Ref) (v : Value) : Table :=
  match r.key.cls with
  | .channel => { t with channels := modify1 t.channels r.key.inst fun c => c.put r.field v }
  | .timebase => { t with timebase := t.timebase.put r.field v }
  | .trigger => { t with trigger := t.trigger.put r.field v }
  | .acquire => { t with acquire := t.acquire.put r.field v }
  | .display => { t with display := t.display.put r.field v }
  | .panel => { t with panel := t.panel.put r.field v }
  | .menu => { t with menu := t.menu.put r.field v }
  | .system => t
  | .keybind => { t with keybinds := t.keybinds.modify r.key.inst fun k => k.put r.field v }
  | .lampbind => { t with lampbinds := t.lampbinds.modify r.key.inst fun l => l.put r.field v }
  | .cursor => { t with cursors := modify1 t.cursors r.key.inst fun o => o.map fun c => c.put r.field v }
  | .measurement => { t with measurements := modify1 t.measurements r.key.inst fun o => o.map fun m => m.put r.field v }
  | .annotation => { t with annotations := modify1 t.annotations r.key.inst fun o => o.map fun a => a.put r.field v }

/-- The keys of one class that exist, in ascending instance order. -/
def Table.keysOf (t : Table) (c : Cls) : List RecKey := (c.instances.map (RecKey.mk c)).filter t.has

/-- The keys of the records that exist, in class order and then instance order. -/
def Table.keys (t : Table) : List RecKey := Cls.order.flatMap t.keysOf

/-- Every field of every record that exists, in class order, instance order and identifier order. -/
def Table.refs (t : Table) : List Ref := t.keys.flatMap fun k => k.cls.fields.map (Ref.mk k)

/-- The dynamic records present. The pool has 16 slots for them (R9). -/
def Table.dynamicKeys (t : Table) : List RecKey := t.keys.filter fun k => k.cls.dynamic

/-- The guard level of a record, where its class has one (R14). -/
def Table.guardOf (t : Table) (k : RecKey) : Option Nat :=
  match k.cls with
  | .channel => (nth1 t.channels k.inst).map (·.guard)
  | .timebase => some t.timebase.guard
  | .trigger => some t.trigger.guard
  | .acquire => some t.acquire.guard
  | .display => some t.display.guard
  | .cursor => (nthPresent t.cursors k.inst).map (·.guard)
  | .measurement => (nthPresent t.measurements k.inst).map (·.guard)
  | .panel | .menu | .system | .keybind | .lampbind | .annotation => none

/-- The record's stamp; SYSTEM's stays 1 from reset to reset because nothing stamps it (R162). -/
def Table.stampOf (t : Table) (k : RecKey) : Stamp := (findKey k t.stamps).getD 0

/-- The record of a channel name, where it is built. -/
def Table.channelOf (t : Table) (c : ChannelName) : Option Channel := nth1 t.channels c.number

/-- The channel is in the build (R30). -/
def Table.built (t : Table) (c : ChannelName) : Bool := (t.channelOf c).isSome

/-- A channel is active when it is built and displayed or named by TRIGGER.source (R29). -/
def Table.active (t : Table) : List ChannelName :=
  ChannelName.positions.filter fun c =>
    match t.channelOf c with
    | some r => r.display == .on || t.trigger.source == .channel c
    | none => false

def timebaseKey : RecKey := ⟨.timebase, 1⟩
def triggerKey : RecKey := ⟨.trigger, 1⟩
def acquireKey : RecKey := ⟨.acquire, 1⟩
def displayKey : RecKey := ⟨.display, 1⟩
def panelKey : RecKey := ⟨.panel, 1⟩
def menuKey : RecKey := ⟨.menu, 1⟩
def systemKey : RecKey := ⟨.system, 1⟩

def levelRef : Ref := ⟨triggerKey, .trLevel⟩
def runStateRef : Ref := ⟨acquireKey, .acRunState⟩
def authorityRef : Ref := ⟨panelKey, .paAuthority⟩
def focusRef : Ref := ⟨panelKey, .paFocus⟩
def hostKeysRef : Ref := ⟨panelKey, .paHostKeys⟩

end Sys2Proof.Machine
end

