-- ==== Sys2Proof/Machine/Blocks.lean ====
section
/-! DEFINITION. What each block beside the Setting Table holds, as plain data. -/

namespace Sys2Proof.Machine

/-! ## Acquisition Planner (R65) -/

/-- The plan. Times in ps, the auto timeout in ms. -/
structure Plan where
  chans    : List ChannelName
  counted  : Int
  mode     : AcqMode
  base     : Int
  cap      : Int
  decim    : Int
  interval : Int
  length   : Int
  pre      : Int
  delay    : Int
  autoMs   : Int
  deriving DecidableEq, Repr

/-- One active channel's entry in the front-end code set; `divided` is the attenuator choice, false x1, true divide by 100. -/
structure FrontEnd where
  chan       : ChannelName
  divided    : Bool
  gain       : Int
  offsetCode : Int
  coupling   : Coupling
  bandwidth  : Bandwidth
  deriving DecidableEq, Repr

/-- The trigger code set; the comparator code is absent for LINE. -/
structure TrigCodes where
  source       : TrigSource
  slope        : Slope
  comparator   : Option Int
  coupling     : TrigCoupling
  holdoffTicks : Int
  mode         : TrigMode
  deriving DecidableEq, Repr

/-- What the Planner holds (R65). -/
structure Planner where
  plan  : Plan
  front : List FrontEnd
  trig  : TrigCodes
  deriving DecidableEq, Repr

/-! ## Panel Scanner (R45, R46, R52, R53, R56) -/

/-- The debounced states of a key (R46). -/
inductive KeyState where
  | blocked | released | pressed
  deriving DecidableEq, Repr

/-- One entry of the key state table; a push switch has no repeat target (R58). -/
structure KeyEntry where
  state    : KeyState
  count    : Nat
  repeatAt : Option Time
  deriving DecidableEq, Repr

/-- The direction of a detent. -/
inductive Dir where
  | cw | ccw
  deriving DecidableEq, Repr

/-- One entry of the knob decoder table: reference levels (none before the first sample), quarter count, last detent direction,
recent-detent list with the newest last. -/
structure KnobEntry where
  levels  : Option (Bool × Bool)
  quarter : Int
  lastDir : Option Dir
  recent  : List Time
  deriving DecidableEq, Repr

/-- What the Panel Scanner holds, with whether the current scan is in ghost hold (log 10). -/
structure Scanner where
  keys   : List KeyEntry
  pushes : List KeyEntry
  knobs  : List KnobEntry
  ghost  : Bool
  deriving DecidableEq, Repr

/-- A panel action on its way to the table: what a key press (R48), a completed detent (R57) or a knob push (R58) carries. -/
inductive PanelAction where
  | press (key : Fin 40) (action : KeyAction) (target : Ref) (arg : Option Value)
  | detent (knob : Fin 12) (target : Ref) (dir : Dir) (mult : Nat)
  | push (knob : Fin 12) (target : Ref)
  deriving DecidableEq, Repr

/-- What waits at the Setting Table (R4): submitted panel actions in the order of submission, and how many events of owner run
(R86) and of owner fault (R170) have been submitted and not yet taken. -/
structure Inbox where
  actions    : List PanelAction
  ownerRun   : Nat
  ownerFault : Nat
  deriving DecidableEq, Repr

/-! ## Lamp Driver (R59) -/

/-- The remaining count of a BLINKING lamp. -/
inductive BlinkCount where
  | cycles (n : Nat)
  | continuous
  deriving DecidableEq, Repr

/-- A lamp's state. -/
inductive LampState where
  | off | on
  | blinking (count : BlinkCount)
  | failed
  deriving DecidableEq, Repr

/-- The result of a lamp's last evaluation (R61). -/
inductive BoundState where
  | off | on | flash
  deriving DecidableEq, Repr

/-- One lamp entry; `lit` and `phaseEnd` are the phase of a running error blink and the time it ends (R63). -/
structure Lamp where
  state    : LampState
  bound    : BoundState
  opens    : Nat
  lit      : Bool
  phaseEnd : Option Time
  deriving DecidableEq, Repr

/-- What the Lamp Driver holds: the lamps, the half of the flash clock (R61) and the common on-time of the PWM period in hand (R62). -/
structure Lamps where
  entries  : List Lamp
  flashLit : Bool
  onTime   : Nat
  deriving DecidableEq, Repr

/-! ## Run Controller and Capture Port (R79, R80, R92, R93, R94) -/

/-- The states of a bank (R80). -/
inductive BankState where
  | free | filling | closing | held | shown
  deriving DecidableEq, Repr

/-- A channel of a descriptor with its scale and offset at arming. -/
structure ChanDesc where
  chan   : ChannelName
  scale  : Int
  offset : Int
  deriving DecidableEq, Repr

/-- A bank's descriptor (R80). -/
structure Descriptor where
  interval : Int
  length   : Int
  pre      : Int
  delay    : Int
  mode     : AcqMode
  chans    : List ChanDesc
  deriving DecidableEq, Repr

/-- An entry of the bank table (R80). -/
structure BankEntry where
  state : BankState
  armed : Bool
  desc  : Option Descriptor
  deriving DecidableEq, Repr

/-- The bank table. -/
structure Banks where
  a : BankEntry
  b : BankEntry
  deriving DecidableEq, Repr

/-- A reduction the Composer asks for (R92, R119). -/
structure Reduce where
  bank  : Bank
  chan  : ChannelName
  first : Int
  last  : Int
  deriving DecidableEq, Repr

/-- The requests of the Run Controller (R92). -/
inductive RcRequest where
  | arm (bank : Bank) (plan : Plan) (front : List FrontEnd) (trig : TrigCodes)
  | abandon (bank : Bank)
  | force (bank : Bank)
  | update (bank : Bank) (trig : TrigCodes)
  deriving DecidableEq, Repr

/-- The bank a request names. -/
def RcRequest.bank : RcRequest → Bank
  | .arm x _ _ _ => x
  | .abandon x => x
  | .force x => x
  | .update x _ => x

/-- A request of the port: the Run Controller's or the Composer's (R94). -/
inductive PortRequest where
  | run (r : RcRequest)
  | reduce (r : Reduce)
  deriving DecidableEq, Repr

/-- Every message the part sends on the Capture Port (R92). -/
inductive PortMessage where
  | request (r : PortRequest)
  | query
  deriving DecidableEq, Repr

/-- The force origin (R79). -/
inductive ForceOrigin where
  | none | user | auto
  deriving DecidableEq, Repr

/-- What the Run Controller holds beside its state, which is ACQUIRE.acq_state (R79, log 32). -/
structure RunControl where
  banks        : Banks
  queue        : List RcRequest
  forcePending : Bool
  forceOrigin  : ForceOrigin
  autoTimer    : Option Time
  deriving DecidableEq, Repr

/-- What the Capture Port holds beside its state, which is SYSTEM.capture_online (R94, R97, log 32): the outstanding request with
its answer deadline, the Composer's waiting REDUCE, the time of the next QUERY and of CAPTURE_LATE. -/
structure Port where
  outstanding : Option (PortRequest × Time)
  waiting     : Option Reduce
  queryAt     : Option Time
  lateAt      : Option Time
  deriving DecidableEq, Repr

/-! ## Composer (R102, R103, R105, R116) -/

/-- The Composer's states (R103). -/
inductive ComposerState where
  | idle | composing | waitSwap
  deriving DecidableEq, Repr

/-- A channel in the view snapshot (R105). -/
structure ViewChannel where
  chan     : ChannelName
  probe    : Int
  fine     : Bool
  scale    : Int
  offset   : Int
  coupling : Coupling
  display  : OnOff
  invert   : Bool
  label    : Option Text
  colour   : Nat
  deriving DecidableEq, Repr

/-- The view snapshot: everything a frame draws (R105). Dynamic records stand with their instance numbers. -/
structure View where
  channels      : List ViewChannel
  scale         : Int
  position      : Int
  source        : TrigSource
  slope         : Slope
  level         : Option Int
  trigMode      : TrigMode
  runState      : RunState
  acqMode       : AcqMode
  intervalPs    : Int
  lengthEff     : Int
  acqState      : AcqState
  trigStatus    : TrigStatus
  graticule     : Graticule
  draw          : DrawStyle
  readouts      : OnOff
  authority     : Nat
  focus         : Option Ref
  menu          : Menu
  captureOnline : Bool
  storeState    : StoreState
  cursors       : List (Nat × Cursor)
  measurements  : List (Nat × Measurement)
  annotations   : List (Nat × Annotation)
  shown         : Option (Bank × Descriptor)
  deriving DecidableEq, Repr

/-- One thing painted into a frame buffer, in pixel columns and rows, both ends included. `dashed` writes the pixels whose position
along the line, modulo 4, is 0 or 1 (R128); `glyph` writes a text cell (R100), its unlit pixels only where it has a background. -/
inductive Paint where
  | rect (x0 y0 x1 y1 colour : Nat)
  | dashedDown (x y0 y1 colour : Nat)
  | dashedAcross (y x0 x1 colour : Nat)
  | glyph (col row : Nat) (ch : Char) (fg : Nat) (bg : Option Nat)
  deriving DecidableEq, Repr

/-- A frame buffer: what has been painted since it was cleared to palette index 0, newest first (log 11). -/
abbrev FrameBuffer := List Paint

/-- The trace layer in hand (R116): the channels still to draw with the pass in hand first, the column reached, the carry row, and
the column whose reduction has been asked for. -/
structure Trace where
  todo  : List ChannelName
  col   : Nat
  carry : Option Nat
  asked : Option Nat
  deriving DecidableEq, Repr

/-- What the Composer holds, with the two frame buffers and the backlight output. `front1` says that buffer 1 is FRONT (R102). -/
structure Composer where
  state       : ComposerState
  recompose   : Bool
  snapshot    : Option View
  failed      : Bool
  front1      : Bool
  buf0        : FrameBuffer
  buf1        : FrameBuffer
  trace       : Trace
  backlightOn : Nat
  deriving DecidableEq, Repr

/-! ## Storage Engine (R144, R145) -/

/-- The categories of saved settings, as a set (R141). -/
structure Categories where
  channels : Bool
  timebase : Bool
  trigger  : Bool
  acquire  : Bool
  display  : Bool
  dynamic  : Bool
  deriving DecidableEq, Repr

/-- A summary in the slot directory (R143). -/
inductive SlotEntry where
  | empty
  | valid (label : Option Text) (cats : Categories) (build : Nat)
  | damaged
  | foreign
  deriving DecidableEq, Repr

/-- The phases of R144. -/
inductive Phase where
  | erase | program | verify | read | apply
  deriving DecidableEq, Repr

/-- The operations named in the last-result record (R145). -/
inductive Operation where
  | store | recall | erase | defaults | powerOn
  deriving DecidableEq, Repr

def Operation.positions : List Operation := [.store, .recall, .erase, .defaults, .powerOn]

/-- The reasons of a FAILED outcome (R145). -/
inductive Reason where
  | eraseFail | programFail | verifyFail | timeout | damaged | foreign
  deriving DecidableEq, Repr

def Reason.positions : List Reason := [.eraseFail, .programFail, .verifyFail, .timeout, .damaged, .foreign]

/-- The outcome of the last operation (R145). -/
inductive OpOutcome where
  | none | done
  | failed (r : Reason)
  deriving DecidableEq, Repr

/-- The last-result record (R145). -/
structure LastResult where
  op      : Option Operation
  slot    : Option Nat
  outcome : OpOutcome
  unread  : Bool
  deriving DecidableEq, Repr

/-- The operation in hand, with the categories a recall selects. -/
structure OpInHand where
  op   : Operation
  slot : Nat
  mask : Categories
  deriving DecidableEq, Repr

/-- What the Storage Engine holds beside its state, which is SYSTEM.store_state (R144, log 32). `flashBusy` says that the flash may
still be busy after a TIMEOUT, `waitReady` that the operation in hand waits for it (R149). -/
structure Engine where
  op        : Option OpInHand
  phase     : Option Phase
  page      : Option Nat
  image     : List Byte
  directory : List SlotEntry
  result    : LastResult
  protect   : Bool
  flashBusy : Bool
  waitReady : Bool
  deadline  : Option Time
  deriving DecidableEq, Repr

/-- An operation on the storage line (12_formats, "Storage line operations"). -/
inductive FlashOp where
  | identification
  | status
  | read (address : Nat)
  | sectorErase (address : Nat)
  | pageProgram (address : Nat) (data : List Byte)
  deriving DecidableEq, Repr

/-! ## Setting Link (10_the_setting_link) -/

/-- A checked request frame: its kind byte and its body. -/
structure Frame where
  kind : Byte
  body : List Byte
  deriving DecidableEq, Repr

/-- What the Setting Link holds; an empty `response` is an empty response buffer, and `attn` is true while ATTN is asserted. -/
structure Link where
  inHand   : Option Frame
  held     : Option (List Byte)
  response : List Byte
  attn     : Bool
  deriving DecidableEq, Repr

/-- The outcomes of a response (R161, 12_formats). -/
inductive ReplyCode where
  | done | doneNoEffect | started | frameError
  | noRecord | notBuilt | unknownField | readOnly | badValue | stale | classFull | poolFull | fixedRecord | busy
  | noStore | empty | damaged | foreign | protectedSlot | outOfRange | notArmed | noIntent | unknownRequest
  deriving DecidableEq, Repr

/-! ## Fault Unit (11_faults) -/

/-- The severity of a fault class (R168). -/
inductive Severity where
  | note | stop
  deriving DecidableEq, Repr

/-- The causes of LINK_FRAME (R168). -/
inductive FrameFault where
  | badStart | overLong | lengthMismatch | badCrc | discarded
  deriving DecidableEq, Repr

def FrameFault.positions : List FrameFault := [.badStart, .overLong, .lengthMismatch, .badCrc, .discarded]

/-- The kind of the request outstanding at a port failure (R168), in the order of the detail byte. -/
inductive RequestKind where
  | arm | abandon | force | update | reduce
  deriving DecidableEq, Repr

def RequestKind.positions : List RequestKind := [.arm, .abandon, .force, .update, .reduce]

/-- The detail a report carries (R168). -/
inductive FaultDetail where
  | frame (cause : FrameFault)
  | knob (k : Nat)
  | lamp (k : Nat)
  | request (k : RequestKind)
  | code (c : Byte)
  | storeFail (slot : Nat) (r : Reason)
  | slot (n : Nat)
  deriving DecidableEq, Repr

/-- An entry of the fault table (R169). -/
structure FaultEntry where
  status   : Bool
  count    : Nat
  detail   : Option FaultDetail
  masked   : Bool
  severity : Severity
  deriving DecidableEq, Repr

/-- What the Fault Unit holds: the entries in the order of R168's table, and first_fault. -/
structure Faults where
  entries : List FaultEntry
  first   : Option FaultClass
  deriving DecidableEq, Repr

/-! ## The whole part -/

/-- The time base and the due times of what it drives. -/
structure Clock where
  now         : Time
  scanAt      : Time
  knobAt      : Time
  pwmAt       : Time
  flashAt     : Time
  backlightAt : Time
  deriving DecidableEq, Repr

/-- What the latest step put out: bytes sent on MISO, messages sent on the Capture Port, operations issued on the storage line
(log 31). -/
structure Outputs where
  miso    : List Byte
  capture : List PortMessage
  flash   : List FlashOp
  deriving DecidableEq, Repr

end Sys2Proof.Machine
end

