-- ==== Sys2Proof/Machine/Planner.lean ====
section
/-! DEFINITION. The Acquisition Planner: what it computes from the Setting Table's fields (04_acquisition_planning). -/

namespace Sys2Proof.Machine

/-- The ADC pair that serves a channel: false pair A (CHANNEL 1, 2), true pair B (CHANNEL 3, 4) (R68). -/
def adcPairB : ChannelName → Bool
  | .ch1 | .ch2 => false
  | .ch3 | .ch4 => true

/-- The base interval: 1,000 ps when an ADC pair has both its channels active, else 500 ps (R68). -/
def baseInterval (chans : List ChannelName) : Int :=
  if (chans.filter fun c => !adcPairB c).length = 2 ∨ (chans.filter adcPairB).length = 2 then 1000 else 500

/-- The five length choices (R31, R69). -/
def lengthChoices : List Int := [1000, 10000, 100000, 1000000, 10000000]

/-- The largest length choice whose points fit a bank of 20,000,000 words (R69). -/
def lengthLimit (counted : Int) (mode : AcqMode) : Int :=
  let m : Int := match mode with | .sample => 1 | .peak => 2
  (lengthChoices.reverse.find? fun l => l * counted * m ≤ 20000000).getD 1000

/-- The plan for the fields held (R68 to R71, R74). -/
def planOf (t : Table) : Plan :=
  let chans := t.active
  let counted : Int := max (chans.length : Int) 1
  let mode := t.acquire.acqMode
  let base := baseInterval chans
  let cap := min t.timebase.length (lengthLimit counted mode)
  let window := 10 * t.timebase.scale
  let decim := max (ceilDiv window (cap * base)) 1
  let interval := base * decim
  let length := floorDiv window interval
  let left := t.timebase.position - 5 * t.timebase.scale
  { chans := chans, counted := counted, mode := mode, base := base, cap := cap, decim := decim, interval := interval
    length := length
    pre := if left < 0 then min (ceilDiv (-left) interval) length else 0
    delay := if left < 0 then 0 else floorDiv left interval
    autoMs := 50 + ceilDiv (2 * window) 1000000000 }

/-- The front-end codes of one active channel (R75, R76). -/
def frontEndOf (n : ChannelName) (c : Channel) : FrontEnd :=
  let divided := decide (100000 * c.probe < c.scale)
  let att : Int := if divided then 100 else 1
  { chan := n, divided := divided
    gain := floorDiv (50000000 * c.probe * att + c.scale) (2 * c.scale)
    offsetCode := 32768 + roundDiv (c.offset * 1600) c.scale
    coupling := c.coupling, bandwidth := c.bandwidth }

/-- The front-end code set: one entry per active channel, ascending (R65, R76). -/
def frontEndSet (t : Table) : List FrontEnd :=
  t.active.filterMap fun n => (t.channelOf n).map (frontEndOf n)

/-- The trigger comparator code (R77): absent for LINE. -/
def comparatorCode (t : Table) : Option Int :=
  match t.trigger.source, t.trigger.level with
  | .channel n, some level => (t.channelOf n).map fun c => 2048 + roundDiv ((level - c.offset) * 400) c.scale
  | .ext, some level => some (2048 + roundDiv (level * 400) 1250000)
  | _, _ => none

/-- The trigger code set (R65, R73, R77). -/
def trigCodesOf (t : Table) : TrigCodes :=
  { source := t.trigger.source, slope := t.trigger.slope, comparator := comparatorCode t
    coupling := t.trigger.coupling, holdoffTicks := ceilDiv t.trigger.holdoff 4, mode := t.trigger.mode }

/-- A full computation, all stages (R66). -/
def plannerOf (t : Table) : Planner := { plan := planOf t, front := frontEndSet t, trig := trigCodesOf t }

/-- The DERIVED fields of ACQUIRE written from a plan (R72). -/
def writeDerived (p : Plan) (t : Table) : Table :=
  { t with acquire := { t.acquire with
      basePs := p.base, intervalPs := p.interval, lengthEff := p.length, preCount := p.pre, delayCount := p.delay } }

/-- The descriptor of a bank armed with the Planner's sets (R80, R82): the plan, and for each channel of its set the scale and
offset at the moment of arming. -/
def descriptorOf (p : Planner) (t : Table) : Descriptor :=
  { interval := p.plan.interval, length := p.plan.length, pre := p.plan.pre, delay := p.plan.delay, mode := p.plan.mode
    chans := p.plan.chans.filterMap fun n => (t.channelOf n).map fun c => ⟨n, c.scale, c.offset⟩ }

end Sys2Proof.Machine
end

