-- ==== Sys2Proof/Machine/Defaults.lean ====
section
/-! DEFINITION. Factory defaults, default bindings, creation defaults and the table's starting state (R19, R36, R37, R39 to R42, 12_formats). -/

namespace Sys2Proof.Machine

/-- A CHANNEL record at its factory defaults, with the display and colour of its instance (R42) and the guard of R14. -/
def factoryChannel (display : OnOff) (colour : Nat) : Channel :=
  { probe := 10, fine := false, scale := 1000000, offset := 0, coupling := .dc, bandwidth := .full, display := display
    invert := false, label := none, colour := colour, guard := 1 }

/-- The CHANNEL records of a build (R30, R42). -/
def factoryChannels (build : Nat) : List Channel :=
  ([factoryChannel .on 2, factoryChannel .off 3, factoryChannel .off 4, factoryChannel .off 5]).take build

def factoryTimebase : Timebase := { scale := 1000000, position := 0, length := 10000, guard := 1 }

def factoryTrigger : Trigger :=
  { source := .channel .ch1, slope := .rise, level := some 0, coupling := .dc, mode := .auto, holdoff := 20, guard := 1 }

/-- ACQUIRE at its factory defaults (R42), with the Run Controller's reset values in its STATUS fields (R79) and its DERIVED
fields still to be written by the Planner (R65). -/
def factoryAcquire : Acquire :=
  { runState := .run, acqMode := .sample, guard := 1, basePs := 0, intervalPs := 0, lengthEff := 0, preCount := 0
    delayCount := 0, acqState := .offline, trigStatus := .waiting, acqCount := 0 }

def factoryDisplay : Display :=
  { graticule := .full, draw := .vector, backlight := 80, lampCoarse := 160, lampFine := 8, readouts := .on, guard := 0 }

/-- PANEL at its reset values (R36). -/
def startPanel : Panel :=
  { authority := 2, localLockout := false, focus := none, accel := true, debounceMs := 8
    knobEdges := List.replicate 12 4, hostKeys := [] }

/-- MENU at its reset values (R37). -/
def startMenu : Menu := { title := none, soft := List.replicate 7 none, highlight := 0 }

/-- SYSTEM at its reset values: the build from CHSEL (R30), no flash detected and SCANNING (R139), the port OFFLINE (R98). -/
def startSystem (build : Nat) : SystemRec :=
  { buildChannels := build, storePresent := false, storeState := .scanning, captureOnline := false }

/-- The value of a member of an enumerated set, for the default bindings. -/
def runStateValue (r : RunState) : Value := enumValue RunState.positions r

/-- The default binding of a key (12_formats, "Default bindings"). -/
def defaultKeybind (k : Nat) : Keybind :=
  let cycle (key : RecKey) (f : Field) : Keybind := { action := .cycle, target := some ⟨key, f⟩, argument := none }
  let bare (a : KeyAction) : Keybind := { action := a, target := none, argument := none }
  if k ≤ 3 then { action := .toggle, target := some ⟨⟨.channel, k + 1⟩, .chDisplay⟩, argument := none }
  else if k = 4 then bare .runToggle
  else if k = 5 then { action := .setValue, target := some runStateRef, argument := some (runStateValue .single) }
  else if k = 6 then bare .force
  else if k = 7 then bare .defaults
  else if k = 8 then cycle triggerKey .trMode
  else if k = 9 then cycle triggerKey .trSlope
  else if k = 10 then cycle triggerKey .trSource
  else if k = 11 then cycle acquireKey .acAcqMode
  else if k = 12 then cycle timebaseKey .tbLength
  else if k = 13 then cycle displayKey .diDraw
  else if k = 14 then cycle displayKey .diGraticule
  else if k = 15 then bare .returnLocal
  else if 30 ≤ k ∧ k ≤ 33 then cycle ⟨.channel, k - 29⟩ .chCoupling
  else bare .host

/-- The default binding of a lamp (12_formats, "Default bindings"). -/
def defaultLampbind (l : Nat) : Lampbind :=
  let eq (key : RecKey) (f : Field) (v : Value) : Lampbind :=
    { target := some ⟨key, f⟩, value := some v, mode := .onEqual, diag := true }
  if l ≤ 3 then eq ⟨.channel, l + 1⟩ .chDisplay (enumValue OnOff.positions .on)
  else if l = 4 then eq acquireKey .acRunState (runStateValue .run)
  else if l = 5 then eq acquireKey .acRunState (runStateValue .stop)
  else if l = 6 then eq acquireKey .acRunState (runStateValue .single)
  else if l = 7 then eq acquireKey .acTrigStatus (enumValue TrigStatus.positions .triggered)
  else if l = 8 then eq triggerKey .trMode (enumValue TrigMode.positions .auto)
  else if l = 9 then { target := some authorityRef, value := some (.num 2), mode := .onNotEqual, diag := true }
  else if l ≤ 13 then eq ⟨.channel, l - 9⟩ .chFine (.truth true)
  else if l = 14 then eq acquireKey .acAcqMode (enumValue AcqMode.positions .peak)
  else if l = 15 then { target := none, value := none, mode := .onEqual, diag := false }
  else if l ≤ 22 then eq menuKey .meHighlight (.num (l - 15 : Nat))
  else { target := some ⟨systemKey, .syStoreState⟩, value := some (enumValue StoreState.positions .idle)
         mode := .onNotEqual, diag := true }

/-- A created CURSOR before its CREATE's values (R39). -/
def newCursor : Cursor := { kind := .time, source := .ch1, a := 0, b := 0, shown := true, guard := 1 }

/-- A created MEASUREMENT before its CREATE's values (R40). -/
def newMeasurement : Measurement :=
  { kind := .frequency, source := .ch1, value := none, status := .none, acq := 0, guard := 1 }

/-- A created ANNOTATION before its CREATE's values (R41). -/
def newAnnotation : Annotation := { text := ['N', 'O', 'T', 'E'], column := 0, row := 3, colour := 8 }

/-- The records of the starting state, before stamps, marks and the Planner's values. -/
def startRecords (build : Nat) : Table :=
  { channels := factoryChannels build, timebase := factoryTimebase, trigger := factoryTrigger, acquire := factoryAcquire
    display := factoryDisplay, panel := startPanel, menu := startMenu, system := startSystem build
    keybinds := (List.range 40).map defaultKeybind, lampbinds := (List.range 24).map defaultLampbind
    cursors := List.replicate 4 none, measurements := List.replicate 8 none, annotations := List.replicate 8 none
    counter := 1, stamps := [], changeSet := [], retired := [], intents := [] }

/-- The Setting Table's starting state (R19): every record carries stamp 1 and is in the change set, and the Planner has written the
DERIVED fields. -/
def startTable (build : Nat) : Table :=
  let t := startRecords build
  let t := writeDerived (planOf t) t
  { t with stamps := t.keys.map fun k => (k, 1), changeSet := t.keys }

/-- The fields a setup image saves of each class, in field order (R141); none for a class that is not saved. -/
def savedFields : Cls → List Field
  | .channel => [.chProbe, .chFine, .chScale, .chOffset, .chCoupling, .chBandwidth, .chDisplay, .chInvert, .chLabel, .chColour]
  | .timebase => [.tbScale, .tbPosition, .tbLength]
  | .trigger => [.trSource, .trSlope, .trLevel, .trCoupling, .trMode, .trHoldoff]
  | .acquire => [.acRunState, .acAcqMode]
  | .display => [.diGraticule, .diDraw, .diBacklight, .diLampCoarse, .diLampFine, .diReadouts]
  | .cursor => [.cuKind, .cuSource, .cuA, .cuB, .cuShown]
  | .measurement => [.msKind, .msSource, .msValue, .msStatus, .msAcq]
  | .annotation => [.anText, .anColumn, .anRow, .anColour]
  | .panel | .menu | .system | .keybind | .lampbind => []

/-- The saved fields of a record with the values a table holds. -/
def savedItems (t : Table) (k : RecKey) : List (Field × Value) :=
  (savedFields k.cls).filterMap fun f => (t.get ⟨k, f⟩).map fun v => (f, v)

/-- The factory defaults as record entries in class order (R42, R43). -/
def factoryEntries (build : Nat) : List (RecKey × List (Field × Value)) :=
  let t := startRecords build
  let keys := [Cls.channel, .timebase, .trigger, .acquire, .display].flatMap t.keysOf
  keys.map fun k => (k, savedItems t k)

end Sys2Proof.Machine
end

