-- ==== Sys2Proof/Machine/Ranges.lean ====
section
/-! DEFINITION. Bringing values into range, settling the fields that depend on a changed one, and the checks of a request's values
(02_settings_and_their_ranges, R7, R49, R60). Everything here reads and writes the Setting Table alone. -/

namespace Sys2Proof.Machine

/-! ## Ranges -/

/-- The range of a number whose limits are fixed (R14, R25, R32, R35 to R41). -/
def fixedRange : Field → Option (Int × Int)
  | .chColour | .anColour | .diLampFine => some (0, 15)
  | .chGuard | .tbGuard | .trGuard | .acGuard | .diGuard | .cuGuard | .msGuard | .paAuthority => some (0, 2)
  | .trHoldoff => some (20, 10000000000)
  | .diBacklight => some (0, 100)
  | .diLampCoarse => some (0, 255)
  | .paDebounceMs => some (2, 30)
  | .meHighlight => some (0, 7)
  | .cuA | .cuB | .msValue => some (-1000000000000000, 1000000000000000)
  | .msAcq => some (0, 4294967295)
  | .anColumn => some (0, 127)
  | .anRow => some (0, 36)
  | _ => none

/-- The limit of a text field's length (R22). -/
def textLimit : Field → Nat
  | .chLabel => 8
  | .meTitle => 24
  | .meSoft1 | .meSoft2 | .meSoft3 | .meSoft4 | .meSoft5 | .meSoft6 | .meSoft7 => 12
  | _ => 32

/-- A text field that may be absent (R22). -/
def textOptional (f : Field) : Bool := f != .anText

/-- The limits of a channel's offset: 20 divisions of its scale either way (R25). -/
def clampOffset (scale v : Int) : Int := clampTo (-20 * scale) (20 * scale) v

/-- The limits of the timebase position (R31). -/
def clampPosition (scale v : Int) : Int := clampTo (-5 * scale) (1000 * scale) v

/-- The range of the trigger level for a source (R32); none for LINE and for a source that is not built. -/
def levelRange (t : Table) (source : TrigSource) : Option (Int × Int) :=
  match source with
  | .channel n => (t.channelOf n).map fun c => (c.offset - 5 * c.scale, c.offset + 5 * c.scale)
  | .ext => some (-5000000, 5000000)
  | .line => none

/-- A level clamped to a source's range. -/
def clampLevel (t : Table) (source : TrigSource) (v : Int) : Int :=
  match levelRange t source with
  | some (lo, hi) => clampTo lo hi v
  | none => v

/-- A value brought into the range that holds for the fields already applied, and how (R21 to R23, R32). -/
def bring (t : Table) (r : Ref) (v : Value) : Value × FieldOutcome :=
  match r.field, v with
  | .chScale, .num n =>
    match nth1 t.channels r.key.inst with
    | some c =>
      if c.fine then (.num (clampTo (1000 * c.probe) (10000000 * c.probe) n), clampFlag (1000 * c.probe) (10000000 * c.probe) n)
      else (.num (ontoSequence (channelSteps c.probe) n).1, (ontoSequence (channelSteps c.probe) n).2)
    | none => (v, .applied)
  | .chOffset, .num n =>
    match nth1 t.channels r.key.inst with
    | some c => (.num (clampOffset c.scale n), clampFlag (-20 * c.scale) (20 * c.scale) n)
    | none => (v, .applied)
  | .tbScale, .num n => (.num (ontoSequence timebaseSteps n).1, (ontoSequence timebaseSteps n).2)
  | .tbPosition, .num n =>
    (.num (clampPosition t.timebase.scale n), clampFlag (-5 * t.timebase.scale) (1000 * t.timebase.scale) n)
  | .trLevel, _ =>
    match t.trigger.source, v with
    | .line, _ => (.absent, .unchanged)
    | _, .num n =>
      match levelRange t t.trigger.source with
      | some (lo, hi) => (.num (clampTo lo hi n), clampFlag lo hi n)
      | none => (v, .applied)
    | _, _ => (v, .applied)
  | f, .num n =>
    match fixedRange f with
    | some (lo, hi) => (.num (clampTo lo hi n), clampFlag lo hi n)
    | none => (v, .applied)
  | f, .text s =>
    let cut := s.take (textLimit f)
    (if cut.isEmpty && textOptional f then .absent else .text cut, if textLimit f < s.length then .clamped else .applied)
  | _, _ => (v, .applied)

/-! ## Dependents -/

/-- A channel's unnamed offset re-clamped against its scale (R27). -/
def reclampOffset (named : Field → Bool) (c : Channel) : Channel :=
  if named .chOffset then c else { c with offset := clampOffset c.scale c.offset }

/-- The later fields of a CHANNEL record that a field just applied governs (R26, R27); `old` is the record before the field. -/
def governChannel (named : Field → Bool) (old c : Channel) : Field → Channel
  | .chProbe =>
    if c.probe = old.probe then c
    else
      let scale := if named .chScale then c.scale else roundDiv (c.scale * c.probe) old.probe
      let offset := if named .chOffset then c.offset else roundDiv (c.offset * c.probe) old.probe
      let c := { c with scale := scale, offset := offset }
      if named .chScale then c else reclampOffset named c
  | .chFine =>
    if old.fine && !c.fine && !named .chScale then
      reclampOffset named { c with scale := stepAtOrAbove (channelSteps c.probe) c.scale }
    else c
  | .chScale => reclampOffset named c
  | _ => c

/-- The level after a change of source that does not name it (R33). -/
def carriedLevel (t : Table) (source : TrigSource) (level : Option Int) : Option Int :=
  match source with
  | .line => none
  | .ext =>
    match level with
    | some v => some (clampLevel t .ext v)
    | none => some 0
  | .channel n =>
    match level with
    | some v => some (clampLevel t (.channel n) v)
    | none => (t.channelOf n).map (·.offset)

/-- The later fields of a MEASUREMENT record that a field just applied governs (R40 case 4, R134). -/
def governMeasurement (named : Field → Bool) (old m : Measurement) : Field → Measurement
  | .msKind =>
    if m.kind ≠ old.kind ∧ !named .msValue ∧ !named .msStatus ∧ m.status = .valid then { m with status := .stale } else m
  | .msSource =>
    if m.source ≠ old.source ∧ !named .msValue ∧ !named .msStatus ∧ m.status = .valid then { m with status := .stale } else m
  | .msValue =>
    if named .msStatus then m
    else { m with status := if m.value.isSome then .valid else .none }
  | _ => m

/-- An action that needs a target (R49). -/
def KeyAction.needsTarget : KeyAction → Bool
  | .toggle | .cycle | .stepUp | .stepDown | .focus | .setValue => true
  | .runToggle | .force | .defaults | .returnLocal | .host | .none => false

/-- Settling the later fields of the same record after one field has been applied (R24); `old` is the table before that field. -/
def govern (named : Field → Bool) (old t : Table) (r : Ref) : Table :=
  match r.key.cls with
  | .channel =>
    match nth1 old.channels r.key.inst with
    | some c0 => { t with channels := modify1 t.channels r.key.inst fun c => governChannel named c0 c r.field }
    | none => t
  | .timebase =>
    if r.field = .tbScale ∧ !named .tbPosition then
      { t with timebase := { t.timebase with position := clampPosition t.timebase.scale t.timebase.position } }
    else t
  | .trigger =>
    if r.field = .trSource ∧ t.trigger.source ≠ old.trigger.source ∧ !named .trLevel then
      { t with trigger := { t.trigger with level := carriedLevel t t.trigger.source t.trigger.level } }
    else t
  | .keybind =>
    if r.field = .kbAction then
      { t with keybinds := t.keybinds.modify r.key.inst fun k =>
          { k with
            target := if !k.action.needsTarget && !named .kbTarget then none else k.target
            argument := if k.action ≠ .setValue ∧ !named .kbArgument then none else k.argument } }
    else t
  | .lampbind =>
    if r.field = .lbTarget then
      { t with lampbinds := t.lampbinds.modify r.key.inst fun l =>
          { l with value := if l.target = none ∧ !named .lbValue then none else l.value } }
    else t
  | .measurement =>
    match nthPresent old.measurements r.key.inst with
    | some m0 =>
      { t with measurements := modify1 t.measurements r.key.inst fun o => o.map fun m => governMeasurement named m0 m r.field }
    | none => t
  | .acquire | .display | .panel | .menu | .system | .cursor | .annotation => t

/-- The VALID measurements a predicate picks become STALE (R40). -/
def staleMeasurements (p : Measurement → Bool) (t : Table) : Table :=
  { t with measurements := t.measurements.map fun o =>
      o.map fun m => if m.status = .valid ∧ p m then { m with status := .stale } else m }

/-- A PLAN field of a CHANNEL record differs (R40 case 1). -/
def channelPlanAltered (a b : Channel) : Bool :=
  a.probe != b.probe || a.fine != b.fine || a.scale != b.scale || a.offset != b.offset || a.coupling != b.coupling
    || a.bandwidth != b.bandwidth || a.display != b.display

/-- The trigger level carried and re-clamped by its source channel (R28). -/
def carryLevel (n : ChannelName) (old c : Channel) (t : Table) : Table :=
  if t.trigger.source = .channel n ∧ (c.probe ≠ old.probe ∨ c.scale ≠ old.scale ∨ c.offset ≠ old.offset) then
    match t.trigger.level with
    | some v =>
      let v := if c.probe = old.probe then v else roundDiv (v * c.probe) old.probe
      { t with trigger := { t.trigger with level := some (clampTo (c.offset - 5 * c.scale) (c.offset + 5 * c.scale) v) } }
    | none => t
  else t

/-- The channel name of an instance number. -/
def channelName? (inst : Nat) : Option ChannelName := nth1 ChannelName.positions inst

/-- Settling the dependents in other records once a record is finished (R24, R28, R40); `old` is the table before the record. -/
def finishRecord (old t : Table) (k : RecKey) : Table :=
  match k.cls with
  | .channel =>
    match channelName? k.inst, nth1 old.channels k.inst, nth1 t.channels k.inst with
    | some n, some c0, some c =>
      let t := carryLevel n c0 c t
      if channelPlanAltered c0 c then staleMeasurements (fun m => m.source == n) t else t
    | _, _, _ => t
  | .timebase =>
    if old.timebase.scale ≠ t.timebase.scale ∨ old.timebase.position ≠ t.timebase.position
      ∨ old.timebase.length ≠ t.timebase.length then staleMeasurements (fun _ => true) t else t
  | .acquire =>
    if old.acquire.acqMode ≠ t.acquire.acqMode then staleMeasurements (fun _ => true) t else t
  | .trigger | .display | .panel | .menu | .system | .keybind | .lampbind | .cursor | .measurement | .annotation => t

/-- Fields with values, as a request or an image entry names them. -/
abbrev Items := List (Field × Value)

/-- The value a request names for a field. -/
def Items.value (items : Items) (f : Field) : Option Value := (items.find? fun p => p.1 == f).map (·.2)

/-- Whether a request names a field. -/
def Items.named (items : Items) (f : Field) : Bool := items.any fun p => p.1 == f

/-- One named field applied and its record settled (R24): the table, and the field's outcome before R6 compares it with the value held. -/
def applyField (items : Items) (t : Table) (r : Ref) (v : Value) : Table × FieldOutcome :=
  let b := bring t r v
  (govern items.named t (t.put r b.1) r, b.2)

/-- The named fields of one record applied in field order (R24), with the flag of each. -/
def applyFields (items : Items) (k : RecKey) : List Field → Table → Table × List (Field × FieldOutcome)
  | [], t => (t, [])
  | f :: fs, t =>
    match items.value f with
    | none => applyFields items k fs t
    | some v =>
      let a := applyField items t ⟨k, f⟩ v
      let rest := applyFields items k fs a.1
      (rest.1, (f, a.2) :: rest.2)

/-- One record's request applied whole, with its dependents in other records (stages 2 and 3 of R4). The flags are those of the
named fields in field order. -/
def applyRecord (t : Table) (k : RecKey) (items : Items) : Table × List (Field × FieldOutcome) :=
  let a := applyFields items k k.cls.fields t
  (finishRecord t a.1 k, a.2)

/-- The outcome of a named field (R6): UNCHANGED when the resulting value equals the value held before the event, else its flag. -/
def outcomeOf (t0 t1 : Table) (k : RecKey) (flags : List (Field × FieldOutcome)) (f : Field) : FieldOutcome :=
  match flags.find? (fun p => p.1 == f) with
  | some (_, .unchanged) => .unchanged
  | some (_, flag) => if t1.get ⟨k, f⟩ = t0.get ⟨k, f⟩ then .unchanged else flag
  | none => .unchanged

/-! ## Checks of values (R7 step 5, R21, R22, R36, R49, R60) -/

/-- The characters text fields accept (R22). -/
def printable (c : Char) : Bool := decide (0x20 ≤ c.toNat) && decide (c.toNat ≤ 0x7E)

/-- A position is a member of an enumerated field's set in this build (R21). -/
def memberOk (t : Table) (f : Field) (pos : Nat) : Bool :=
  match f.sort with
  | .enumerated n =>
    decide (pos < n) &&
      (match f with
       | .trSource | .cuSource | .msSource => decide (4 ≤ pos) || decide (pos < t.channels.length)
       | _ => true)
  | .number | .truth | .text | .optNumber | .reference | .edges | .keySet | .argument => false

/-- A record key in its class's range, with a field of the class, whatever the build and whether or not it is present (R49, R60). -/
def refInRange (r : Ref) : Bool := decide (r.field.cls = r.key.cls) && r.key.cls.instances.contains r.key.inst

/-- A value of the sort of a field, an enumerated one a member of its set; a number may lie outside the range (R49, R60). An enumerated
value is its position, so one that a binding holds is judged by its position in the set of a target amended without it (DESIGN CHOICE,
log 46). A text is judged by its characters, and by R22's refusal of an empty text where the field is not optional, but not by its
length (DESIGN CHOICE, log 47). -/
def valueOfSort (t : Table) (f : Field) (v : Value) : Bool :=
  match f.sort, v with
  | .number, .num _ => true
  | .enumerated _, .enum p => memberOk t f p
  | .truth, .truth _ => true
  | .text, .text s => s.all printable && (textOptional f || !s.isEmpty)
  | .text, .absent => textOptional f
  | .optNumber, .num _ => true
  | .optNumber, .absent => true
  | .reference, .ref _ => true
  | .reference, .absent => true
  | .argument, .present _ => true
  | .argument, .absent => true
  | .edges, .edges _ => true
  | .keySet, .keys _ => true
  | _, _ => false

/-- A focus value names a focusable field of a record that is built or present, or NONE (R36). -/
def focusOk (t : Table) (v : Value) : Bool :=
  match v with
  | .absent => true
  | .ref r => r.field.focusable && decide (r.field.cls = r.key.cls) && t.has r.key
  | _ => false

/-- A value that a request may name for a field (R7 step 5). -/
def valueOk (t : Table) (items : Items) (r : Ref) (v : Value) : Bool :=
  valueOfSort t r.field v &&
  (match r.field, v with
   | .chProbe, .num n => n == 1 || n == 10 || n == 100
   | .tbLength, .num n => lengthChoices.contains n
   | .trLevel, .absent => memberOf TrigSource.positions ((items.value .trSource).getD .absent) t.trigger.source == .line
   | .paFocus, v => focusOk t v
   | .paKnobEdges, .edges l => l.length == 12 && l.all fun e => e == 4 || e == 2 || e == 1
   | .kbArgument, .present (.text s) => s.all printable
   | .lbValue, .present (.text s) => s.all printable
   | _, _ => true)

/-- A field with exactly two values (R49): a truth value, or an enumerated field whose set has two members in this build (R21: CURSOR
and MEASUREMENT sources in a 2-channel build). -/
def twoValued (t : Table) (f : Field) : Bool :=
  match f.sort with
  | .truth => true
  | .enumerated n => decide (((List.range n).filter (memberOk t f)).length = 2)
  | _ => false

/-- A legal KEYBIND record (R49); TOGGLE and CYCLE, like SET_VALUE, target a field the panel may write (log 20). An argument held
through a change of the target alone keeps its position (log 46). -/
def Keybind.legal (t : Table) (k : Keybind) : Bool :=
  match k.action with
  | .toggle =>
    match k.target with
    | some r => refInRange r && r.field.panelWritable && k.argument.isNone && twoValued t r.field
    | none => false
  | .cycle =>
    match k.target with
    | some r => refInRange r && r.field.panelWritable && k.argument.isNone
        && (match r.field.sort with
            | .truth | .enumerated _ => true
            | _ => r.field == .tbLength)
    | none => false
  | .stepUp | .stepDown | .focus =>
    match k.target with
    | some r => refInRange r && r.field.focusable && k.argument.isNone
    | none => false
  | .setValue =>
    match k.target, k.argument with
    | some r, some v => refInRange r && r.field.panelWritable && valueOfSort t r.field v
    | _, _ => false
  | .runToggle | .force | .defaults | .returnLocal | .host | .none => k.target.isNone && k.argument.isNone

/-- A legal LAMPBIND record (R60). A value held through a change of the target alone keeps its position in the new field's set (log 46);
a text is taken as `valueOfSort` says (log 47). -/
def Lampbind.legal (t : Table) (l : Lampbind) : Bool :=
  match l.target with
  | none => l.value.isNone
  | some r => refInRange r && r.field != .paKnobEdges && r.field != .paHostKeys && valueOfSort t r.field (l.value.getD .absent)

/-- The binding an amend would leave is legal (R49, R60); other records have no such check. -/
def bindingLegal (t : Table) (k : RecKey) : Bool :=
  match k.cls with
  | .keybind => (t.keybinds[k.inst]?).all fun b => b.legal t
  | .lampbind => (t.lampbinds[k.inst]?).all fun b => b.legal t
  | _ => true

/-- A field the link may not write: DERIVED, STATUS and PANEL.host_keys (R2). -/
def readOnly (f : Field) : Bool := f.kind == .derived || f.kind == .status || f == .paHostKeys

/-- The position, from 1, of the first element of a list that satisfies `p`. -/
def firstPos {α : Type} (p : α → Bool) (l : List α) : Option Nat := (l.findIdx? p).map (· + 1)

/-- The position of the first item whose field an earlier item has named: of two namings the second is the one that fails (R7 and R162
do not say which; DESIGN CHOICE, log 49). -/
def repeatedPos : List Field → List Field → Nat → Option Nat
  | _, [], _ => none
  | seen, f :: fs, n => if seen.contains f then some n else repeatedPos (f :: seen) fs (n + 1)

/-- The position at which the values of a request are refused BAD_VALUE (R7 step 5), in request order: a value that could not be
read (`none`), one that `valueOk` refuses, a field named twice (at its second naming, log 49); then, with position 0, a binding that
would be illegal (log 34). -/
def badValuePos (t : Table) (k : RecKey) (items : List (Field × Option Value)) : Option Nat :=
  let read : Items := items.filterMap fun p => p.2.map fun v => (p.1, v)
  let bad := firstPos (fun p => match p.2 with
    | none => true
    | some v => !valueOk t read ⟨k, p.1⟩ v) items
  let twice := repeatedPos [] (items.map (·.1)) 1
  match bad, twice with
  | some m, some n => some (min m n)
  | some m, none => some m
  | none, some n => some n
  | none, none => if bindingLegal (applyRecord t k read).1 k then none else some 0

end Sys2Proof.Machine
end

