-- ==== Sys2Proof/Machine/LampRules.lean ====
section
/-! DEFINITION. The evaluation of lamps against the table, and what a lamp entry does with it (R59 to R64). -/

namespace Sys2Proof.Machine

/-- The evaluation of one binding against the table (R61). -/
def evalLamp (t : Table) (b : Lampbind) : BoundState :=
  match b.target with
  | none => .off
  | some r =>
    match t.get r with
    | none => .off
    | some v =>
      let eq := v == b.value.getD .absent
      match b.mode with
      | .onEqual => if eq then .on else .off
      | .onNotEqual => if eq then .off else .on
      | .blinkEqual => if eq then .flash else .off

/-- The state a bound state gives a lamp that is neither FAILED nor running an error blink (R61). -/
def BoundState.state : BoundState → LampState
  | .off => .off
  | .on => .on
  | .flash => .blinking .continuous

/-- A lamp takes a new evaluation: FAILED and an error blink keep their state and record it (R61). -/
def Lamp.record (l : Lamp) (b : BoundState) : Lamp :=
  match l.state with
  | .failed | .blinking (.cycles _) => { l with bound := b }
  | .off | .on | .blinking .continuous => { l with bound := b, state := b.state }

/-- A lamp takes its bound state: at the end of an error blink (R63) and when FAILED ends (R60). -/
def Lamp.settle (l : Lamp) (b : BoundState) : Lamp := { l with bound := b, state := b.state, lit := false, phaseEnd := none }

/-- A lamp whose own binding was amended: the open count becomes 0, FAILED ends, and the lamp is evaluated afresh (R60). -/
def Lamp.rebind (l : Lamp) (b : BoundState) : Lamp :=
  match l.state with
  | .failed => { l.settle b with opens := 0 }
  | .off | .on | .blinking _ => { l.record b with opens := 0 }

/-- A lamp is driven lit: ON, or in a lit phase of BLINKING (R59); `flashLit` is the half of the flash clock. -/
def Lamp.driven (l : Lamp) (flashLit : Bool) : Bool :=
  match l.state with
  | .on => true
  | .blinking .continuous => flashLit
  | .blinking (.cycles _) => l.lit
  | .off | .failed => false

/-- A lamp after a reset: every entry cleared and then evaluated once (R59). -/
def startLamp (t : Table) (b : Lampbind) : Lamp :=
  let e := evalLamp t b
  { state := e.state, bound := e, opens := 0, lit := false, phaseEnd := none }

/-- The common on-time of the lamps in microseconds of each 4,096 us period (R62). -/
def lampOnTime (t : Table) : Nat := 16 * t.display.lampCoarse + t.display.lampFine

/-- The home lamp of a control (R63). -/
def homeLamp : Control → Nat
  | .key k =>
    if k.val ≤ 4 then k.val
    else if k.val = 5 then 6
    else if k.val = 6 then 15
    else if k.val = 8 then 8
    else if k.val = 11 then 14
    else if 16 ≤ k.val ∧ k.val ≤ 22 then k.val
    else if k.val = 26 then 23
    else 9
  | .knob k => if k.val ≤ 3 then 10 + k.val else 9

/-- An error blink starts or restarts on a lamp: count 3 and a lit phase of 75,000 us; a FAILED lamp shows nothing (R63). -/
def Lamp.errorBlink (l : Lamp) (now : Time) : Lamp :=
  match l.state with
  | .failed => l
  | .off | .on | .blinking _ => { l with state := .blinking (.cycles 3), lit := true, phaseEnd := some (after now 75000) }

/-- A phase of an error blink ends: lit turns dark, and after a dark phase the count falls by 1 and at 0 the lamp takes its bound
state (R63). -/
def Lamp.endPhase (l : Lamp) (now : Time) : Lamp :=
  match l.state with
  | .blinking (.cycles n) =>
    if l.lit then { l with lit := false, phaseEnd := some (after now 75000) }
    else if n ≤ 1 then l.settle l.bound
    else { l with state := .blinking (.cycles (n - 1)), lit := true, phaseEnd := some (after now 75000) }
  | .off | .on | .blinking .continuous | .failed => l

/-- One sensed or unsensed PWM period of a lamp (R64): the lamp, and whether it has just gone FAILED. -/
def Lamp.sense (l : Lamp) (diag flashLit readsOpen : Bool) (onTime : Nat) : Lamp × Bool :=
  if !diag then ({ l with opens := 0 }, false)
  else if !(l.driven flashLit) || decide (onTime < 16) then (l, false)
  else if !readsOpen then ({ l with opens := 0 }, false)
  else if l.opens + 1 < 4 then ({ l with opens := l.opens + 1 }, false)
  else ({ l with state := .failed, opens := 4, lit := false, phaseEnd := none }, true)

end Sys2Proof.Machine
end

