-- ==== Sys2Proof/Machine/Start.lean ====
section
/-! DEFINITION. What each block beside the Setting Table holds after power-on reset. -/

namespace Sys2Proof.Machine

/-- The default severities of R168. -/
def defaultSeverity : FaultClass → Severity
  | .captureTimeout | .captureReported => .stop
  | .linkFrame | .encoderGlitch | .lampOpen | .storeFail | .imageDamaged | .captureLate => .note

/-- The fault table after power-on reset (R174). -/
def startFaults : Faults :=
  { entries := FaultClass.positions.map fun c =>
      { status := false, count := 0, detail := none, masked := false, severity := defaultSeverity c }
    first := none }

/-- The clock at power-on. The manual gives the time base no reset value: DESIGN CHOICE 0 (log 4). -/
def startClock : Clock := { now := 0, scanAt := 0, knobAt := 0, pwmAt := 0, flashAt := 0, backlightAt := 0 }

/-- Nothing waits at the table after a reset (R20). -/
def startInbox : Inbox := { actions := [], ownerRun := 0, ownerFault := 0 }

/-- The Panel Scanner after a reset: every key and push switch BLOCKED (R46, R58), every knob with no reference, count 0, no
direction and an empty list (R53). -/
def startScanner : Scanner :=
  let key : KeyEntry := { state := .blocked, count := 0, repeatAt := none }
  let knob : KnobEntry := { levels := none, quarter := 0, lastDir := none, recent := [] }
  { keys := List.replicate 40 key, pushes := List.replicate 12 key, knobs := List.replicate 12 knob, ghost := false }

/-- The Lamp Driver after a reset: the lamps evaluated once (R59), the flash clock in its lit half (R61), the on-time of the table's
starting state (R62). -/
def startLamps (t : Table) : Lamps :=
  { entries := t.lampbinds.map (startLamp t), flashLit := true, onTime := lampOnTime t }

/-- The Run Controller after a reset (R79, R80). -/
def startRun : RunControl :=
  let bank : BankEntry := { state := .free, armed := false, desc := none }
  { banks := { a := bank, b := bank }, queue := [], forcePending := false, forceOrigin := .none, autoTimer := none }

/-- The Capture Port after a reset (R98). -/
def startPort : Port := { outstanding := none, waiting := none, queryAt := none, lateAt := none }

/-- No trace layer in hand. -/
def noTrace : Trace := { todo := [], col := 0, carry := none, asked := none }

/-- The Composer after a reset (R102, R103), with the backlight output following DISPLAY.backlight (R115). -/
def startComposer (t : Table) : Composer :=
  { state := .idle, recompose := true, snapshot := none, failed := false, front1 := false, buf0 := [], buf1 := []
    trace := noTrace, backlightOn := 40 * t.display.backlight }

/-- The Storage Engine after a power-on reset (R144, R145, R153). -/
def startEngine : Engine :=
  { op := none, phase := none, page := none, image := [], directory := []
    result := { op := none, slot := none, outcome := .none, unread := false }
    protect := false, flashBusy := false, waitReady := false, deadline := none }

/-- The Setting Link after a reset, with ATTN released while it is asserted (R167). -/
def startLink : Link := { inHand := none, held := none, response := [], attn := false }

/-- No outputs yet. -/
def noOutputs : Outputs := { miso := [], capture := [], flash := [] }

end Sys2Proof.Machine
end

