-- ==== Sys2Proof/Machine/State.lean ====
section
/-! DEFINITION. The machine's state, its stops, and the state after reset. -/

namespace Sys2Proof.Machine

/-- Why the model stops. -/
inductive Fault where
  /-- Raised by the meanings of WRITE_PERIOD, START_UP_SCAN, STORE_ERASE_DONE, PAGE_PROGRAM_DONE, VERIFY, RECALL_READ and
  SLOT_ERASE_DONE for an operand that no pin and no flash can produce (`Instr.wellFormed` is false). Safe: the part never sees such a
  command, and the model stops instead of inventing an effect (log 36). -/
  | malformedCommand
  deriving DecidableEq, Repr

/-- Why the model has no meaning for a command. -/
inductive Refusal where
  /-- Raised by exec's arm of a command that has no meaning yet. Safe: the model stops. No arm of this model raises it. -/
  | notModelled (mnemonic : String)
  deriving DecidableEq, Repr

/-- The PD428: the Setting Table and what waits at it, the other nine blocks, the time base, whether a reset is asserted, what the
latest step put out, and the queue of commands that are waiting, first in first out. -/
structure State where
  table    : Table
  inbox    : Inbox
  scanner  : Scanner
  lamps    : Lamps
  planner  : Planner
  run      : RunControl
  port     : Port
  composer : Composer
  engine   : Engine
  link     : Link
  faults   : Faults
  clock    : Clock
  inReset  : Bool
  out      : Outputs
  pending  : List Instr
  deriving DecidableEq, Repr

/-- The starting state of every block for a build, while the reset is still asserted (R19, R46, R53, R59, R65, R79, R80, R98, R102,
R103, R115, R144, R145, R167, R174). -/
def State.start (build : Nat) : State :=
  let t := startTable build
  { table := t
    inbox := startInbox
    scanner := startScanner
    lamps := startLamps t
    planner := plannerOf t
    run := startRun
    port := startPort
    composer := startComposer t
    engine := startEngine
    link := startLink
    faults := startFaults
    clock := startClock
    inReset := true
    out := noOutputs
    pending := [] }

/-- The machine right after power-on reset of a 4-channel build (the strap's level is the board's: DESIGN CHOICE high, log 5), with
the reset still asserted: RESET_END is what ends it (R167). -/
def State.reset : State := State.start 4

end Sys2Proof.Machine
end

