-- ==== Sys2Proof/WellFormed.lean ====
section
/-! DEFINITION. Which operands the pins and the flash can produce. -/

namespace Sys2Proof

/-- The bytes of one flash sector (R139). -/
def sectorBytes : Nat := 4096

/-- A sector as the flash returns it: 4,096 bytes (R139). -/
def sectorOk (sector : List Byte) : Bool := sector.length == sectorBytes

/-- The operands of a command are such as its pins or its device can produce: a write period does not begin with FFh (R157), a
sector has 4,096 bytes and a start-up scan reads 32 of them (R139, R154). A sector beside a status byte is read only where the
status reports an error (bit 5 an erase's, bit 6 a program's: 12_formats). Every other operand is bounded by its type. -/
def Instr.wellFormed : Instr → Bool
  | .writePeriod bytes => bytes.head? != some 0xFF
  | .startUpScan sectors => sectors.length == 32 && sectors.all sectorOk
  | .storeEraseDone status sector => !status.getLsbD 5 || sectorOk sector
  | .pageProgramDone status sector => !status.getLsbD 6 || sectorOk sector
  | .verify sector => sectorOk sector
  | .recallRead sector => sectorOk sector
  | .slotEraseDone status sector => !status.getLsbD 5 || sectorOk sector
  | .powerOnReset _ | .deviceReset _ | .readPeriod _ | .heldRequestTaken | .identify | .lookup | .amend | .create
  | .retire | .collect | .intentAccept | .intentDrop | .defaults | .force | .store | .recall | .erase | .directory
  | .storageStatus | .protect | .faultsRead | .faultsClear | .faultsSetup | .keyScan _ _ | .pressAction _
  | .repeatTargetExpiry _ | .knobSample _ _ | .detent _ | .push _ | .lampPwmPeriod _ | .errorBlinkPhase _
  | .flashClockPhase | .ownerRunEvent | .ownerFaultEvent | .ack _ | .reduceData _ | .hello _ | .prefilled _
  | .triggered _ | .complete _ | .faultNotice _ | .portFailure | .queryRetry | .captureLate | .autoTimerExpiry
  | .frameStart | .frameEnd | .verticalBlank | .backlightPwmPeriod | .flashDetection _ _ _ | .flashReadyTimeout
  | .storeEraseTimeout | .pageProgramTimeout | .recallReadyTimeout | .apply | .slotEraseTimeout | .resetEnd
  | .flashReportsReady => true

end Sys2Proof
end

