-- ==== Sys2Proof/Machine/Ops.lean ====
section
/-! DEFINITION. The shared operations on the machine's state: time, outputs, lamps, status updates, fault reports, the attention line,
and the frame every command's meaning stands in. -/

namespace Sys2Proof.Machine

/-! ## Time and outputs -/

/-- A due time arrives: the time base moves to it where it lies ahead (log 3). -/
def State.arrive (t : Time) (s : State) : State :=
  if ahead t s.clock.now then { s with clock := { s.clock with now := t } } else s

/-- A due time that may be absent arrives. -/
def State.arriveOpt (t : Option Time) (s : State) : State :=
  match t with
  | some x => s.arrive x
  | none => s

/-- A message leaves on the Capture Port. -/
def State.sendMessage (m : PortMessage) (s : State) : State := { s with out := { s.out with capture := s.out.capture ++ [m] } }

/-- An operation leaves on the storage line. -/
def State.issueFlash (op : FlashOp) (s : State) : State := { s with out := { s.out with flash := s.out.flash ++ [op] } }

/-! ## Lamps and the recompose-needed flag -/

/-- The lamps whose binding names an altered field, or a field of a created or retired record, are evaluated once with the values of
the table as it stands (R61). -/
def State.notifyLamps (altered : Ref → Bool) (s : State) : State :=
  { s with lamps := { s.lamps with entries := s.lamps.entries.mapIdx fun i l =>
      match s.table.lampbinds[i]? with
      | some b =>
        match b.target with
        | some r => if altered r then l.record (evalLamp s.table b) else l
        | none => l
      | none => l } }

/-- The recompose-needed flag is set (R104). -/
def State.recompose (s : State) : State := { s with composer := { s.composer with recompose := true } }

/-- A status update (R3): the table holds the new value from then on; if it differs, the Lamp Driver is notified and
recompose-needed is set. It stamps and marks nothing. -/
def State.statusUpdate (r : Ref) (write : Table → Table) (s : State) : State :=
  let t := write s.table
  if t.get r = s.table.get r then s
  else (State.notifyLamps (· == r) { s with table := t }).recompose

def acqStateRef : Ref := ⟨acquireKey, .acAcqState⟩
def trigStatusRef : Ref := ⟨acquireKey, .acTrigStatus⟩
def acqCountRef : Ref := ⟨acquireKey, .acAcqCount⟩
def storePresentRef : Ref := ⟨systemKey, .syStorePresent⟩
def storeStateRef : Ref := ⟨systemKey, .syStoreState⟩
def captureOnlineRef : Ref := ⟨systemKey, .syCaptureOnline⟩

/-- The Run Controller enters a state, which it writes to ACQUIRE.acq_state (R79). -/
def State.setAcqState (v : AcqState) : State → State :=
  State.statusUpdate acqStateRef fun t => { t with acquire := { t.acquire with acqState := v } }

/-- The Run Controller writes trig_status (R79). -/
def State.setTrigStatus (v : TrigStatus) : State → State :=
  State.statusUpdate trigStatusRef fun t => { t with acquire := { t.acquire with trigStatus := v } }

/-- The Run Controller counts a completed acquisition; the count passes from 4,294,967,295 to 0 (R79). -/
def State.countAcquisition : State → State :=
  State.statusUpdate acqCountRef fun t => { t with acquire := { t.acquire with acqCount := t.acquire.acqCount + 1 } }

/-- The Storage Engine writes store_present (R139). -/
def State.setStorePresent (v : Bool) : State → State :=
  State.statusUpdate storePresentRef fun t => { t with system := { t.system with storePresent := v } }

/-- The Storage Engine enters a state, which it writes to SYSTEM.store_state (R144). -/
def State.setStoreState (v : StoreState) : State → State :=
  State.statusUpdate storeStateRef fun t => { t with system := { t.system with storeState := v } }

/-- The Capture Port goes ONLINE or OFFLINE, which it writes to SYSTEM.capture_online (R96, R97). -/
def State.setCaptureOnline (v : Bool) : State → State :=
  State.statusUpdate captureOnlineRef fun t => { t with system := { t.system with captureOnline := v } }

/-- An error blink starts on a control's home lamp (R63). -/
def State.errorBlink (c : Control) (s : State) : State :=
  { s with lamps := { s.lamps with entries := s.lamps.entries.modify (homeLamp c) fun l => l.errorBlink s.clock.now } }

/-! ## Fault reports -/

/-- The place of a class in the fault table. -/
def FaultClass.index (c : FaultClass) : Nat := FaultClass.positions.idxOf c

/-- One report taken at an entry: status set, count one more up to 255, the detail replaced (R169). -/
def FaultEntry.report (d : Option FaultDetail) (e : FaultEntry) : FaultEntry :=
  { e with status := true, count := min (e.count + 1) 255, detail := d }

/-- A report of a class with its detail (R169): the entry, first_fault, and at STOP severity the event of owner fault (R170). -/
def State.report (c : FaultClass) (d : Option FaultDetail) (s : State) : State :=
  let stops := (s.faults.entries[c.index]?).any fun e => e.severity == .stop
  { s with
    faults := { entries := s.faults.entries.modify c.index (FaultEntry.report d), first := s.faults.first.or (some c) }
    inbox := if stops then { s.inbox with ownerFault := s.inbox.ownerFault + 1 } else s.inbox }

/-! ## The attention line -/

/-- The Setting Table's share: one of its four collection lists is non-empty (R13, R166 cause 1). -/
def Table.attention (t : Table) : Bool :=
  !t.changeSet.isEmpty || !t.retired.isEmpty || !t.intents.isEmpty || !t.panel.hostKeys.isEmpty

/-- The Fault Unit's share: a class whose status is set and whose mask is clear (R169, R166 cause 3). -/
def Faults.attention (f : Faults) : Bool := f.entries.any fun e => e.status && !e.masked

/-- One or more causes of the attention line hold (R166). -/
def State.attentionCause (s : State) : Bool := s.table.attention || s.engine.result.unread || s.faults.attention

/-- The level the line takes: asserted while a cause holds (R166), released while a reset is asserted (R167). -/
def State.attnLevel (s : State) : Bool := !s.inReset && s.attentionCause

/-! ## The frame of a command's meaning -/

/-- A step begins with nothing put out yet (log 31). -/
def State.begin (s : State) : State := { s with out := noOutputs }

/-- A step ends with the attention line following its causes (R166). -/
def State.settle (s : State) : State := { s with link := { s.link with attn := s.attnLevel } }

/-- A command with the effect `f`, whether or not a reset is asserted. -/
def always (f : State → State) (s : State) : Host.Outcome State Fault Refusal := .next (f s.begin).settle

/-- A command with the effect `f` while no reset is asserted; a part held in reset takes no command (R167, log 5). -/
def command (f : State → State) (s : State) : Host.Outcome State Fault Refusal :=
  always (fun s => if s.inReset then s else f s) s

/-- A command whose operand must be such as a pin or the flash can produce (log 36). -/
def checked (i : Instr) (f : State → State) (s : State) : Host.Outcome State Fault Refusal :=
  if i.wellFormed then command f s else .fault .malformedCommand

end Sys2Proof.Machine
end

