-- ==== Sys2Proof/Machine/Codec.lean ====
section
/-! DEFINITION. Bytes: the encodings of 12_formats_and_default_tables and the reading of request bodies (R175). Every multi-byte
quantity stands high byte first. -/

namespace Sys2Proof.Machine

/-! ## Plain bytes and check sums -/

/-- A number's low eight bits. -/
def byte (n : Nat) : Byte := BitVec.ofNat 8 n

/-- The low `k` bytes of a number, high byte first. -/
def bytesBE : Nat → Nat → List Byte
  | 0, _ => []
  | k + 1, n => byte (n / 256 ^ k) :: bytesBE k n

/-- The number a list of bytes spells, high byte first. -/
def natBE (l : List Byte) : Nat := l.foldl (fun acc b => acc * 256 + b.toNat) 0

/-- The 8-byte two's complement encoding of a number. -/
def numberBytes (n : Int) : List Byte := bytesBE 8 (n % 2 ^ 64).toNat

/-- The number that 8 bytes hold in two's complement. -/
def numberOfBytes (l : List Byte) : Int :=
  let n := natBE l
  if n < 2 ^ 63 then (n : Int) else (n : Int) - 2 ^ 64

/-- The 6 bytes of a stamp. -/
def stampBytes (s : Stamp) : List Byte := bytesBE 6 s.toNat

/-- One bit of the CRC-16: generator x^16 + x^12 + x^5 + 1, most significant bit first. -/
def crc16Bit (r : BitVec 16) : BitVec 16 := if r.getLsbD 15 then (r <<< 1) ^^^ 0x1021 else r <<< 1

/-- One byte of the CRC-16. -/
def crc16Byte (r : BitVec 16) (b : Byte) : BitVec 16 :=
  Nat.repeat crc16Bit 8 (r ^^^ (b.setWidth 16 <<< 8))

/-- The CRC-16 of 12_formats: starts at FFFFh and is not inverted. -/
def crc16 (l : List Byte) : BitVec 16 := l.foldl crc16Byte 0xFFFF

/-- The CRC-16's two bytes. -/
def crc16Bytes (l : List Byte) : List Byte := bytesBE 2 (crc16 l).toNat

/-- One bit of the CRC-32 of R176: reflected generator EDB88320h, least significant bit first. -/
def crc32Bit (r : BitVec 32) : BitVec 32 := if r.getLsbD 0 then (r >>> 1) ^^^ 0xEDB88320 else r >>> 1

/-- One byte of the CRC-32. -/
def crc32Byte (r : BitVec 32) (b : Byte) : BitVec 32 := Nat.repeat crc32Bit 8 (r ^^^ b.setWidth 32)

/-- The CRC-32 of R176: starts at FFFFFFFFh and is inverted. -/
def crc32 (l : List Byte) : BitVec 32 := ~~~ (l.foldl crc32Byte 0xFFFFFFFF)

/-- The first `k` bytes and the rest; none where there are fewer. -/
def takeBytes (k : Nat) (l : List Byte) : Option (List Byte × List Byte) :=
  if l.length < k then none else some (l.take k, l.drop k)

/-! ## Keys, fields and values -/

/-- A record key: class number and instance. -/
def keyBytes (k : RecKey) : List Byte := [byte k.cls.number, byte k.inst]

/-- A field reference: record key and field identifier. -/
def refBytes (r : Ref) : List Byte := keyBytes r.key ++ [byte r.field.ident]

/-- A text: a length byte and the characters. -/
def textBytes (t : Text) : List Byte := byte t.length :: t.map fun c => byte c.toNat

/-- An optional text: length FFh is the absent value. -/
def optTextBytes : Option Text → List Byte
  | some t => textBytes t
  | none => [0xFF]

/-- The target whose sort the argument of a KEYBIND or the value of a LAMPBIND carries (R175). -/
def Table.argTarget (t : Table) (r : Ref) : Option Ref :=
  match r.field with
  | .kbArgument => (t.keybinds[r.key.inst]?).bind (·.target)
  | .lbValue => (t.lampbinds[r.key.inst]?).bind (·.target)
  | _ => none

/-- A value of a field, encoded by the sort of its field (12_formats, "Keys, fields and values"); an argument is followed by a value
of its own target's sort (log 29). -/
def encodeValue (t : Table) : Value → Ref → List Byte
  | .num n, r => if r.field.sort = .optNumber then 1 :: numberBytes n else numberBytes n
  | .enum p, _ => [byte p]
  | .truth b, _ => [if b then 1 else 0]
  | .text s, _ => textBytes s
  | .absent, r => if r.field.sort = .text then [0xFF] else [0]
  | .ref x, _ => refBytes x
  | .edges l, _ => l.map byte
  | .keys l, _ => byte l.length :: l.map byte
  | .present v, r => 1 :: encodeValue t v ((t.argTarget r).getD r)

/-- What reading one value finds: the value; one that is refused but whose size is known; one that is refused and leaves the size of
what follows unknown; a class number or a field identifier that the part does not know, where reading stops (R175); or the end of the
body inside it. -/
inductive ReadResult where
  | good (v : Value) (rest : List Byte)
  | bad (rest : List Byte)
  | stuck
  | unknownClass
  | unknownField
  | short
  deriving DecidableEq, Repr

/-- A byte that must be 00h or 01h. -/
def readTruth (l : List Byte) : ReadResult :=
  match l with
  | [] => .short
  | b :: rest => if b = 0 then .good (.truth false) rest else if b = 1 then .good (.truth true) rest else .bad rest

/-- A text: a length above 32 other than FFh is refused (R175). -/
def readText (l : List Byte) : ReadResult :=
  match l with
  | [] => .short
  | b :: rest =>
    if b = 0xFF then .good .absent rest
    else match takeBytes b.toNat rest with
      | none => .short
      | some (cs, rest) => if 32 < b.toNat then .bad rest else .good (.text (cs.map fun c => Char.ofNat c.toNat)) rest

/-- A field reference. A class number or a field identifier the part does not know stops the reading (R175). -/
def readRef (l : List Byte) : ReadResult :=
  match l with
  | [] => .short
  | b :: rest =>
    if b = 0 then .good .absent rest
    else match rest with
      | inst :: f :: rest =>
        match Cls.ofNumber b.toNat with
        | some c =>
          match c.field f.toNat with
          | some f => .good (.ref ⟨⟨c, inst.toNat⟩, f⟩) rest
          | none => .unknownField
        | none => .unknownClass
      | _ => if (Cls.ofNumber b.toNat).isNone then .unknownClass else .short

/-- One value of a sort. `target` is the target an argument takes its sort from; `fuel` bounds a chain of arguments (log 29). A presence
byte other than 00h or 01h, and an argument that is present where no target gives it a sort, stop the reading: what follows has no known
size (R175 does not say; DESIGN CHOICE, log 14). -/
def readValue (t : Table) : Nat → FieldSort → Option Ref → List Byte → ReadResult
  | _, .number, _, l =>
    match takeBytes 8 l with
    | some (n, rest) => .good (.num (numberOfBytes n)) rest
    | none => .short
  | _, .enumerated n, _, l =>
    match l with
    | b :: rest => if b.toNat < n then .good (.enum b.toNat) rest else .bad rest
    | [] => .short
  | _, .truth, _, l => readTruth l
  | _, .text, _, l => readText l
  | _, .optNumber, _, l =>
    match l with
    | [] => .short
    | b :: rest =>
      if b = 0 then .good .absent rest
      else if b = 1 then
        match takeBytes 8 rest with
        | some (n, rest) => .good (.num (numberOfBytes n)) rest
        | none => .short
      else .stuck
  | _, .reference, _, l => readRef l
  | _, .edges, _, l =>
    match takeBytes 12 l with
    | some (e, rest) => .good (.edges (e.map (·.toNat))) rest
    | none => .short
  | _, .keySet, _, l =>
    match l with
    | [] => .short
    | b :: rest =>
      match takeBytes b.toNat rest with
      | some (k, rest) => .good (.keys (k.map (·.toNat))) rest
      | none => .short
  | 0, .argument, _, _ => .short
  | fuel + 1, .argument, target, l =>
    match l with
    | [] => .short
    | b :: rest =>
      if b = 0 then .good .absent rest
      else if b = 1 then
        match target with
        | none => .stuck
        | some r =>
          match readValue t fuel r.field.sort (t.argTarget r) rest with
          | .good v rest => .good (.present v) rest
          | .bad rest => .bad rest
          | .stuck => .stuck
          | .unknownClass => .unknownClass
          | .unknownField => .unknownField
          | .short => .short
      else .stuck

/-! ## Lists of items -/

/-- How the reading of a list of items ends: at its last item, at an unknown field identifier with its item's position, at an unknown
class number, at a value that leaves the size of what follows unknown, or inside an item. -/
inductive ItemsEnd where
  | whole (rest : List Byte)
  | unknown (position : Nat)
  | unknownClass
  | stuck
  | short
  deriving DecidableEq, Repr

/-- Items as read: each field with its value, `none` where the value is refused (R175). -/
abbrev ReadItems := List (Field × Option Value)

/-- The target that a binding's record holds (R175). -/
def heldTarget (t : Table) (k : RecKey) : Option Ref :=
  match k.cls with
  | .keybind => t.argTarget ⟨k, .kbArgument⟩
  | .lampbind => t.argTarget ⟨k, .lbValue⟩
  | _ => none

/-- The table with the binding that a request amends given the target that the request names for it, so that an argument reached by way
of that binding's own target takes its sort from the named one too (R175). -/
def Table.retarget (own : Option RecKey) (target : Option Ref) (t : Table) : Table :=
  match own with
  | some ⟨.keybind, n⟩ => { t with keybinds := t.keybinds.modify n fun k => { k with target := target } }
  | some ⟨.lampbind, n⟩ => { t with lampbinds := t.lampbinds.modify n fun l => { l with target := target } }
  | _ => t

/-- The first target that items name for their own binding; the outer `none` where they name none. Of two namings, which make the request
BAD_VALUE, the first gives an argument its sort (R175 does not say which does; DESIGN CHOICE, log 54). -/
def namedTarget : ReadItems → Option (Option Ref)
  | [] => none
  | (f, v) :: rest =>
    if f = .kbTarget ∨ f = .lbTarget then
      match v with
      | some (.ref r) => some (some r)
      | some .absent => some none
      | _ => namedTarget rest
    else namedTarget rest

/-- `count` items of a class: a field identifier followed by its value (12_formats, "Request bodies"). An argument takes the sort of
the target named so far, or of `assumed`; `own` is the record that the request amends, read as having that target. An item inside which
the reading stops or the body ends stands in the list, its value unread. -/
def readItems (t : Table) (c : Cls) (own : Option RecKey) (assumed : Option Ref) : Nat → Nat → ReadItems → List Byte → ReadItems × ItemsEnd
  | 0, _, acc, l => (acc.reverse, .whole l)
  | n + 1, pos, acc, l =>
    match l with
    | [] => (acc.reverse, .short)
    | b :: rest =>
      match c.field b.toNat with
      | none => (acc.reverse, .unknown pos)
      | some f =>
        let target := (namedTarget acc.reverse).getD assumed
        match readValue (t.retarget own target) (rest.length + 1) f.sort target rest with
        | .good v rest => readItems t c own assumed n (pos + 1) ((f, some v) :: acc) rest
        | .bad rest => readItems t c own assumed n (pos + 1) ((f, none) :: acc) rest
        | .stuck => (((f, none) :: acc).reverse, .stuck)
        | .unknownClass => (((f, none) :: acc).reverse, .unknownClass)
        | .unknownField => (((f, none) :: acc).reverse, .unknown pos)
        | .short => (((f, none) :: acc).reverse, .short)

/-- The items hold, before any target, an argument that is there or was refused: it was read by the assumed target. An absent one
was not. -/
def usesAssumed : ReadItems → Bool
  | [] => false
  | (f, v) :: rest =>
    if f = .kbTarget ∨ f = .lbTarget then false
    else ((f == .kbArgument || f == .lbValue) && v != some .absent) || usesAssumed rest

/-- The targets that a list of bytes may name after an argument: every place that reads as a target item. -/
def targetCandidates (c : Cls) : List Byte → List (Option Ref)
  | [] => []
  | b :: rest =>
    let here : List (Option Ref) :=
      match c.field b.toNat with
      | some .kbTarget | some .lbTarget =>
        match readRef rest with
        | .good (.ref r) _ => [some r]
        | .good .absent _ => [none]
        | _ => []
      | _ => []
    here ++ targetCandidates c rest

/-- The items of a request (R175): the argument of a binding takes the sort of the target the request names, before it or after it,
or of the held target of the record `own` that it amends when the request names none. Of the readings that agree with the target they name, one that reaches the end of
the body comes first. Where no reading agrees with the target it names, the reading stops at the argument (log 14). -/
def readRequestItems (t : Table) (c : Cls) (own : Option RecKey) (count : Nat) (l : List Byte) : ReadItems × ItemsEnd :=
  let first := readItems t c own (own.bind (heldTarget t)) count 1 [] l
  if !usesAssumed first.1 ∨ (namedTarget first.1 = none ∧ first.2 = .whole []) then first
  else
    let readings := (targetCandidates c l).map fun x => (x, readItems t c own x count 1 [] l)
    let agree := readings.filter fun p => decide (namedTarget p.2.1 = some p.1)
    match (agree.find? fun p => decide (p.2.2 = .whole [])).or agree.head? with
    | some p => p.2
    | none => if namedTarget first.1 = none then first else readItems t c own none count 1 [] l

/-! ## Setting Link frames -/

/-- The request kinds, numbered from 01h (12_formats). -/
inductive Req where
  | identify | lookup | amend | create | retire | collect | intent | defaults | force | store | recall | erase
  | directory | storageStatus | protect | faults
  deriving DecidableEq, Repr

def Req.positions : List Req :=
  [.identify, .lookup, .amend, .create, .retire, .collect, .intent, .defaults, .force, .store, .recall, .erase,
   .directory, .storageStatus, .protect, .faults]

/-- The request a kind byte names; none for an unknown kind. -/
def Req.ofByte (b : Byte) : Option Req := if b = 0 then none else Req.positions[b.toNat - 1]?

/-- The kind byte of a request. -/
def Req.byte (r : Req) : Byte := Machine.byte (Req.positions.idxOf r + 1)

def ReplyCode.refusals : List ReplyCode :=
  [.noRecord, .notBuilt, .unknownField, .readOnly, .badValue, .stale, .classFull, .poolFull, .fixedRecord, .busy, .noStore,
   .empty, .damaged, .foreign, .protectedSlot, .outOfRange, .notArmed, .noIntent, .unknownRequest]

/-- The byte of an outcome: 00h to 03h, and the refusals from 10h (12_formats). -/
def ReplyCode.byte : ReplyCode → Byte
  | .done => 0
  | .doneNoEffect => 1
  | .started => 2
  | .frameError => 3
  | c => Machine.byte (0x10 + ReplyCode.refusals.idxOf c)

/-- A response as a block gives it: its outcome and its body. -/
structure Reply where
  code : ReplyCode
  body : List Byte
  deriving DecidableEq, Repr

/-- A response with an empty body. -/
def bare (c : ReplyCode) : Reply := { code := c, body := [] }

/-- A refusal that carries a field position (R161). -/
def atField (c : ReplyCode) (position : Nat) : Reply := { code := c, body := [byte position] }

/-- The bytes of a response frame (R160). -/
def responseFrame (kind : Byte) (r : Reply) : List Byte :=
  let covered := kind :: r.code.byte :: (bytesBE 2 r.body.length ++ r.body)
  (0x3C : Byte) :: (covered ++ crc16Bytes covered)

/-- The check of a taken frame (R158): the first check that fails, or the frame. -/
def checkFrame (l : List Byte) : FrameFault ⊕ Frame :=
  match l with
  | [] => .inl .badStart
  | start :: rest =>
    if start ≠ 0x5C then .inl .badStart
    else if 1024 < l.length then .inl .overLong
    else match rest with
      | kind :: hi :: lo :: tail =>
        let n := natBE [hi, lo]
        if 1018 < n then .inl .overLong
        else if l.length ≠ 6 + n then .inl .lengthMismatch
        else if crc16Bytes (kind :: hi :: lo :: tail.take n) ≠ tail.drop n then .inl .badCrc
        else .inr { kind := kind, body := tail.take n }
      | _ => .inl .lengthMismatch

/-! ## Category and class sets -/

/-- The category set's byte. -/
def Categories.byte (c : Categories) : Byte :=
  Machine.byte ((if c.channels then 1 else 0) + (if c.timebase then 2 else 0) + (if c.trigger then 4 else 0)
    + (if c.acquire then 8 else 0) + (if c.display then 16 else 0) + (if c.dynamic then 32 else 0))

/-- The category set a byte names; none with bit 6 or 7 set (R175, R176). -/
def Categories.ofByte (b : Byte) : Option Categories :=
  if b.getLsbD 6 || b.getLsbD 7 then none
  else some { channels := b.getLsbD 0, timebase := b.getLsbD 1, trigger := b.getLsbD 2, acquire := b.getLsbD 3
              display := b.getLsbD 4, dynamic := b.getLsbD 5 }

/-- The fault classes a class set byte names. -/
def classSet (b : Byte) : List FaultClass := FaultClass.positions.filter fun c => b.getLsbD c.index

/-! ## Capture Port messages -/

/-- A message of the capture controller (R92). The bank byte is kept as it came: a notice that names neither A nor B is ignored (R83). -/
inductive CaptureMsg where
  | ack
  | reduceData (first last least greatest : Nat)
  | hello
  | prefilled (bank : Nat)
  | triggered (bank : Nat) (forced : Bool)
  | complete (bank : Nat)
  | fault (code : Byte)
  deriving DecidableEq, Repr

/-- The bank a bank byte names. -/
def bankOf (n : Nat) : Option Bank := if n = 0 then some .a else if n = 1 then some .b else none

def Bank.byte : Bank → Byte
  | .a => 0
  | .b => 1

/-- The message that a kind and a payload make; none for another kind or a length that does not fit the kind (12_formats), and for
a trigger cause that is neither REAL nor FORCED (log 26). -/
def captureMsg (kind : Byte) (payload : List Byte) : Option CaptureMsg :=
  if kind = 0x81 then if payload.isEmpty then some .ack else none
  else if kind = 0x82 then
    if payload.length = 8 then
      some (.reduceData (natBE (payload.take 2)) (natBE ((payload.drop 2).take 2)) (natBE ((payload.drop 4).take 2))
        (natBE (payload.drop 6)))
    else none
  else if kind = 0x83 then if payload.isEmpty then some .hello else none
  else match payload with
    | [b] =>
      if kind = 0x84 then some (.prefilled b.toNat)
      else if kind = 0x86 then some (.complete b.toNat)
      else if kind = 0x87 then some (.fault b)
      else none
    | [b, cause] =>
      if kind = 0x85 then
        if cause = 0 then some (.triggered b.toNat false)
        else if cause = 1 then some (.triggered b.toNat true)
        else none
      else none
    | _ => none

/-- The message that bytes on the Capture Port make: kind, length, payload and a CRC-16 over them; none for a message that is
discarded as if it had not arrived (12_formats). -/
def readMessage (l : List Byte) : Option CaptureMsg :=
  match l with
  | kind :: hi :: lo :: tail =>
    let n := natBE [hi, lo]
    if tail.length ≠ n + 2 then none
    else if crc16Bytes (kind :: hi :: lo :: tail.take n) ≠ tail.drop n then none
    else captureMsg kind (tail.take n)
  | _ => none

/-- A message's bytes on the Capture Port. -/
def frameMessage (kind : Byte) (payload : List Byte) : List Byte :=
  let covered := kind :: (bytesBE 2 payload.length ++ payload)
  covered ++ crc16Bytes covered

/-- The bytes of a message the capture controller sends. -/
def CaptureMsg.bytes : CaptureMsg → List Byte
  | .ack => frameMessage 0x81 []
  | .reduceData f l least greatest => frameMessage 0x82 (bytesBE 2 f ++ bytesBE 2 l ++ bytesBE 2 least ++ bytesBE 2 greatest)
  | .hello => frameMessage 0x83 []
  | .prefilled b => frameMessage 0x84 [byte b]
  | .triggered b forced => frameMessage 0x85 [byte b, if forced then 1 else 0]
  | .complete b => frameMessage 0x86 [byte b]
  | .fault c => frameMessage 0x87 [c]

/-- The position byte of a member of a set. -/
def positionByte {α : Type} [BEq α] (positions : List α) (x : α) : Byte := byte (positions.idxOf x)

/-- An unsigned 8-byte item of ARM or REDUCE. -/
def countBytes (n : Int) : List Byte := bytesBE 8 n.toNat

/-- A channel set byte. -/
def channelSetByte (l : List ChannelName) : Byte :=
  byte ((ChannelName.positions.filter l.contains).foldl (fun acc c => acc + 2 ^ (c.number - 1)) 0)

/-- The comparator code's two bytes, FFFFh for an absent one. -/
def comparatorBytes : Option Int → List Byte
  | some c => bytesBE 2 c.toNat
  | none => [0xFF, 0xFF]

/-- The slope, comparator code, trigger coupling and holdoff ticks that ARM and UPDATE end with (R92). -/
def trigTail (t : TrigCodes) : List Byte :=
  [positionByte Slope.positions t.slope] ++ comparatorBytes t.comparator
    ++ [positionByte TrigCoupling.positions t.coupling] ++ countBytes t.holdoffTicks

/-- A channel entry of ARM. -/
def frontEndBytes (f : FrontEnd) : List Byte :=
  [byte f.chan.number, if f.divided then 1 else 0] ++ bytesBE 2 f.gain.toNat ++ bytesBE 2 f.offsetCode.toNat
    ++ [positionByte Coupling.positions f.coupling, positionByte Bandwidth.positions f.bandwidth]

/-- The bytes of a message the part sends (R92, 12_formats). -/
def PortMessage.bytes : PortMessage → List Byte
  | .query => frameMessage 0x06 []
  | .request (.reduce r) =>
    frameMessage 0x05 ([r.bank.byte, byte r.chan.number] ++ countBytes r.first ++ countBytes r.last)
  | .request (.run (.abandon x)) => frameMessage 0x02 [x.byte]
  | .request (.run (.force x)) => frameMessage 0x03 [x.byte]
  | .request (.run (.update x t)) => frameMessage 0x04 (x.byte :: trigTail t)
  | .request (.run (.arm x p front t)) =>
    frameMessage 0x01 ([x.byte] ++ countBytes p.base ++ countBytes p.interval ++ countBytes p.length ++ countBytes p.pre
      ++ countBytes p.delay ++ [positionByte AcqMode.positions p.mode, channelSetByte p.chans]
      ++ front.flatMap frontEndBytes ++ [positionByte TrigSource.positions t.source] ++ trigTail t)

/-! ## Storage line operations -/

/-- The bytes the part sends for an operation on the storage line (12_formats, "Storage line operations"). -/
def FlashOp.bytes : FlashOp → List Byte
  | .identification => [0x9F]
  | .status => [0x05]
  | .read a => (0x03 : Byte) :: bytesBE 3 a
  | .sectorErase a => (0x20 : Byte) :: bytesBE 3 a
  | .pageProgram a data => (0x02 : Byte) :: (bytesBE 3 a ++ data)

end Sys2Proof.Machine
end

