-- ==== Sys2Proof/Machine/RunControl.lean ====
section
/-! DEFINITION. The Run Controller and the Capture Port (05_run_control_and_the_capture_port). -/

namespace Sys2Proof.Machine

/-! ## The bank table (R80, R81) -/

/-- A bank's entry. -/
def Banks.get (b : Banks) : Bank → BankEntry
  | .a => b.a
  | .b => b.b

/-- A bank's entry replaced. -/
def Banks.set (b : Banks) (x : Bank) (e : BankEntry) : Banks :=
  match x with
  | .a => { b with a := e }
  | .b => { b with b := e }

/-- The first bank in a state, A before B. -/
def Banks.find (b : Banks) (st : BankState) : Option Bank :=
  if b.a.state = st then some .a else if b.b.state = st then some .b else none

/-- An entry made FREE: its armed mark is false, and its descriptor stays until the bank is armed again (log 39). -/
def BankEntry.free (e : BankEntry) : BankEntry := { e with state := .free, armed := false }

/-- A bank moved to another state, its mark and descriptor kept. -/
def Banks.move (b : Banks) (x : Bank) (st : BankState) : Banks :=
  b.set x (if st = .free then (b.get x).free else { b.get x with state := st })

/-- A FILLING or CLOSING entry made FREE; HELD and SHOWN keep their state (R81, R96, R97). -/
def BankEntry.drop (e : BankEntry) : BankEntry :=
  match e.state with
  | .filling | .closing => e.free
  | .free | .held | .shown => e

/-- The bank table after a port failure or a HELLO taken while ONLINE (R81). -/
def Banks.drop (b : Banks) : Banks := { a := b.a.drop, b := b.b.drop }

/-- The Run Controller's part of the state changed. -/
def State.onRun (f : RunControl → RunControl) (s : State) : State := { s with run := f s.run }

/-- The bank table changed. -/
def State.onBanks (f : Banks → Banks) : State → State := State.onRun fun r => { r with banks := f r.banks }

/-- A request put at the tail of the queue (R93). -/
def State.enqueue (q : RcRequest) : State → State := State.onRun fun r => { r with queue := r.queue ++ [q] }

/-- Requests removed from the queue. -/
def State.unqueue (p : RcRequest → Bool) : State → State :=
  State.onRun fun r => { r with queue := r.queue.filter fun q => !p q }

def RcRequest.isArm (x : Bank) : RcRequest → Bool
  | .arm y _ _ _ => x == y
  | .abandon _ | .force _ | .update _ _ => false

def RcRequest.isForce (x : Bank) : RcRequest → Bool
  | .force y => x == y
  | .arm _ _ _ _ | .abandon _ | .update _ _ => false

def RcRequest.isUpdate (x : Bank) : RcRequest → Bool
  | .update y _ => x == y
  | .arm _ _ _ _ | .abandon _ | .force _ => false

/-- The in-flight states (R79). -/
def AcqState.inFlight : AcqState → Bool
  | .arming | .ready | .triggered => true
  | .offline | .stopped | .waitBank => false

/-! ## Arming, abandoning, handovers (R82, R89 to R91) -/

/-- An arm (R82): with the sets the Planner holds at that moment, or WAIT_BANK when neither bank is FREE. -/
def State.arm (s : State) : State :=
  match s.run.banks.find .free with
  | none => s.setAcqState .waitBank
  | some x =>
    let entry : BankEntry := { state := .filling, armed := false, desc := some (descriptorOf s.planner s.table) }
    ((State.onRun (fun r => { r with
        banks := r.banks.set x entry
        queue := r.queue ++ [.arm x s.planner.plan s.planner.front s.planner.trig]
        forceOrigin := .none }) s).setAcqState .arming).setTrigStatus .waiting

/-- A bank became FREE: in WAIT_BANK this makes the arm of R82 (R81). -/
def State.bankFreed (s : State) : State :=
  if s.table.acquire.acqState = .waitBank then s.arm else s

/-- An abandon (R90): the FILLING bank is freed at once while its ARM is still queued, else it closes behind an ABANDON. -/
def State.abandon (s : State) : State :=
  match s.run.banks.find .filling with
  | none => s
  | some x =>
    let s' := s.unqueue fun q => q.isUpdate x || q.isForce x
    if s.run.queue.any (·.isArm x) then (s'.unqueue (·.isArm x)).onBanks (·.move x .free)
    else (s'.onBanks (·.move x .closing)).enqueue (.abandon x)

/-- A re-plan or run-state change handed to the Run Controller (R89). -/
def State.handover (s : State) : State :=
  let s := s.onRun fun r => { r with forcePending := false, autoTimer := none }
  let stop := s.table.acquire.runState == .stop
  match s.table.acquire.acqState with
  | .offline => s
  | .stopped => if stop then s else s.arm
  | .waitBank => if stop then s.setAcqState .stopped else s
  | .arming | .ready | .triggered => if stop then s.abandon.setAcqState .stopped else s.abandon.arm

/-- The auto timer starts: now plus the auto timeout of the plan the Planner holds (R88). -/
def State.startAutoTimer (s : State) : State :=
  s.onRun fun r => { r with autoTimer := some (after s.clock.now (1000 * s.planner.plan.autoMs.toNat)) }

/-- The auto timer is cancelled. -/
def State.cancelAutoTimer : State → State := State.onRun fun r => { r with autoTimer := none }

/-- The queue with an UPDATE of a bank: one that waits is replaced in place, else it goes to the tail (R91). -/
def withUpdate (x : Bank) (t : TrigCodes) (queue : List RcRequest) : List RcRequest :=
  if queue.any (·.isUpdate x) then queue.map fun q => if q.isUpdate x then .update x t else q
  else queue ++ [.update x t]

/-- A trigger update handed to the Run Controller (R91); `before` is the trigger mode before the event. -/
def State.triggerUpdate (before : TrigMode) (s : State) : State :=
  let s := if s.table.acquire.acqState.inFlight then
      match s.run.banks.find .filling with
      | some x => s.onRun fun r => { r with queue := withUpdate x s.planner.trig r.queue }
      | none => s
    else s
  if s.table.acquire.acqState = .ready ∧ s.planner.trig.mode ≠ before then
    match s.planner.trig.mode with
    | .auto => s.startAutoTimer
    | .normal => s.cancelAutoTimer
  else s

/-! ## Forcing a trigger (R87) -/

/-- FORCE by the Run Controller's state, with its answer (R87). -/
def State.forceTrigger (s : State) : State × ReplyCode :=
  match s.table.acquire.acqState with
  | .ready =>
    if s.run.forceOrigin = .none then
      match s.run.banks.find .filling with
      | some x => ((s.onRun fun r => { r with autoTimer := none, forceOrigin := .user }).enqueue (.force x), .done)
      | none => (s, .doneNoEffect)
    else (s, .doneNoEffect)
  | .arming | .waitBank =>
    if s.run.forcePending then (s, .doneNoEffect)
    else (s.onRun fun r => { r with forcePending := true }, .done)
  | .triggered => (s, .doneNoEffect)
  | .stopped | .offline => (s, .notArmed)

/-! ## The Capture Port (R94 to R96) -/

/-- The checks of a REDUCE against the bank table (R95). -/
def reduceOk (banks : Banks) (r : Reduce) : Bool :=
  let e := banks.get r.bank
  e.state == .shown &&
    (match e.desc with
     | some d => d.chans.any (fun c => c.chan == r.chan) && decide (0 ≤ r.first) && decide (r.first ≤ r.last)
         && decide (r.last ≤ d.length - 1)
     | none => false)

/-- A REDUCE returned to the Composer as failed: the reduction-failed mark is set and no trace is drawn further in the frame (R106). -/
def State.reduceFailed (s : State) : State :=
  { s with composer := { s.composer with failed := true, trace := noTrace } }

/-- A request is sent: it becomes the outstanding request with its answer deadline (R94). -/
def State.sendRequest (q : PortRequest) (s : State) : State :=
  ({ s with port := { s.port with outstanding := some (q, after s.clock.now 2000) } }).sendMessage (.request q)

/-- The port takes its next request when it is ONLINE and free (R94): the head of the queue, else the Composer's waiting REDUCE. -/
def State.pump (s : State) : State :=
  if s.table.system.captureOnline ∧ s.port.outstanding = none then
    match s.run.queue with
    | q :: rest => (s.onRun fun r => { r with queue := rest }).sendRequest (.run q)
    | [] =>
      match s.port.waiting with
      | some r =>
        let s' := { s with port := { s.port with waiting := none } }
        if reduceOk s.run.banks r then s'.sendRequest (.reduce r) else s'.reduceFailed
      | none => s
  else s

/-- The Composer offers a REDUCE; while the port is OFFLINE it is returned as failed at once (R95). -/
def State.offerReduce (r : Reduce) (s : State) : State :=
  if s.table.system.captureOnline then { s with port := { s.port with waiting := some r } }.pump
  else s.reduceFailed

/-- The Composer has a REDUCE outstanding or waiting. -/
def Port.hasReduce (p : Port) : Bool :=
  p.waiting.isSome || (match p.outstanding with
    | some (.reduce _, _) => true
    | some (.run _, _) | none => false)

/-- The Composer's REDUCE, outstanding or waiting, is returned as failed (R96, R97). -/
def State.failReduces (s : State) : State :=
  let s' := { s with port := { s.port with outstanding := none, waiting := none } }
  if s.port.hasReduce then s'.reduceFailed else s'

/-- A QUERY is sent, and the next falls due 500,000 us later (R97). -/
def State.sendQuery (s : State) : State :=
  ({ s with port := { s.port with queryAt := some (after s.clock.now 500000) } }).sendMessage .query

/-- The Run Controller's acquisition ends without an answer: queue emptied, force-pending cleared, force origin NONE, auto timer
cancelled, FILLING and CLOSING banks FREE (R96, R97). -/
def RunControl.dropAll (r : RunControl) : RunControl :=
  { banks := r.banks.drop, queue := [], forcePending := false, forceOrigin := .none, autoTimer := none }

/-- The kind of a request, as CAPTURE_TIMEOUT's detail names it (R168). -/
def PortRequest.kind : PortRequest → RequestKind
  | .run (.arm _ _ _ _) => .arm
  | .run (.abandon _) => .abandon
  | .run (.force _) => .force
  | .run (.update _ _) => .update
  | .reduce _ => .reduce

/-- A port failure (R96). -/
def State.failPort (q : PortRequest) (s : State) : State :=
  let s := s.report .captureTimeout (some (.request q.kind))
  let s := (s.setCaptureOnline false).setAcqState .offline
  (s.onRun RunControl.dropAll).failReduces.sendQuery

/-- STOPPED, and then the arm that run_state asks for (R97). -/
def State.restart (s : State) : State :=
  let s := s.setAcqState .stopped
  if s.table.acquire.runState = .stop then s else s.arm

/-- HELLO (R97). -/
def State.takeHello (s : State) : State :=
  if s.table.system.captureOnline then ((s.failReduces.onRun RunControl.dropAll).restart).recompose.pump
  else
    let s := { s with port := { s.port with queryAt := none, lateAt := none } }
    ((s.setCaptureOnline true).restart).pump

/-! ## Answers and notices (R83 to R86, R95) -/

/-- An ACK taken against an outstanding request of the Run Controller (R81, R95). -/
def State.takeAck (s : State) : State :=
  match s.port.outstanding with
  | some (.run q, _) =>
    let s := { s with port := { s.port with outstanding := none } }
    let s : State := match q with
      | .arm x _ _ _ => s.onBanks fun b => b.set x { b.get x with armed := true }
      | .abandon x =>
        if (s.run.banks.get x).state = BankState.closing then (s.onBanks (·.move x .free)).bankFreed else s
      | .force _ | .update _ _ => s
    s.pump
  | some (.reduce _, _) | none => s

/-- The bank of a notice that is taken: one that is FILLING with its armed mark true, while the port is not OFFLINE (R83). -/
def State.noticeBank (n : Nat) (s : State) : Option Bank :=
  match bankOf n with
  | some x =>
    let e := s.run.banks.get x
    if e.state = .filling ∧ e.armed ∧ s.table.acquire.acqState ≠ .offline then some x else none
  | none => none

/-- PREFILLED taken in ARMING (R84). -/
def State.takePrefilled (x : Bank) (s : State) : State :=
  if s.table.acquire.acqState = .arming then
    let s := s.setAcqState .ready
    let s := if s.run.forcePending then
        (s.onRun fun r => { r with forcePending := false, forceOrigin := .user }).enqueue (.force x)
      else if s.table.trigger.mode = .auto then s.startAutoTimer
      else s
    s.pump
  else s

/-- The trigger status a cause gives (R85). -/
def trigStatusOf (forced : Bool) (origin : ForceOrigin) : TrigStatus :=
  if !forced then .triggered
  else match origin with
    | .auto => .auto
    | .user | .none => .forced

/-- A trigger taken for a bank in ARMING or READY (R85). -/
def State.trigger (x : Bank) (forced : Bool) (s : State) : State :=
  let status := trigStatusOf forced s.run.forceOrigin
  let s := s.setAcqState .triggered
  let s := s.onRun fun r => { r with autoTimer := none, forcePending := false }
  (s.unqueue (·.isForce x)).setTrigStatus status

/-- TRIGGERED taken (R85). -/
def State.takeTriggered (x : Bank) (forced : Bool) (s : State) : State :=
  match s.table.acquire.acqState with
  | .arming | .ready => (s.trigger x forced).pump
  | .offline | .stopped | .waitBank | .triggered => s

/-- The bank changes of a COMPLETE: FILLING to HELD, and a bank already HELD to FREE (R81). -/
def Banks.complete (b : Banks) (x : Bank) : Banks :=
  let b := if (b.get x.other).state = .held then b.move x.other .free else b
  b.move x .held

/-- COMPLETE taken in an in-flight state (R86); a run_state of STOP, which no reachable state has in flight, stops (log 30). -/
def State.takeComplete (x : Bank) (s : State) : State :=
  if s.table.acquire.acqState.inFlight then
    let s := if s.table.acquire.acqState = .triggered then s else s.trigger x false
    let s := (s.onBanks (·.complete x)).countAcquisition
    let s := ((s.unqueue fun q => q.isUpdate x || q.isForce x).cancelAutoTimer).recompose
    let s := match s.table.acquire.runState with
      | .run => s.arm
      | .single => let s := s.setAcqState .stopped
                   { s with inbox := { s.inbox with ownerRun := s.inbox.ownerRun + 1 } }
      | .stop => s.setAcqState .stopped
    s.pump
  else s

/-- The auto timer expires in READY (R88). -/
def State.expireAutoTimer (s : State) : State :=
  match s.run.autoTimer, s.run.banks.find .filling with
  | some t, some x =>
    if s.table.acquire.acqState = .ready then
      (((s.arrive t).onRun fun r => { r with autoTimer := none, forceOrigin := .auto }).enqueue (.force x)).pump
    else s
  | _, _ => s

/-! ## The Composer's two requests (R81) -/

/-- The Composer takes a bank at the start of a frame: HELD becomes SHOWN and the bank previously SHOWN becomes FREE. -/
def State.takeBank (s : State) : State :=
  match s.run.banks.find .held with
  | none => s
  | some x =>
    match s.run.banks.find .shown with
    | some y => ((s.onBanks fun b => (b.move y .free).move x .shown).bankFreed).pump
    | none => s.onBanks (·.move x .shown)

/-- The Composer ends a frame while a bank is HELD: the SHOWN bank becomes FREE. -/
def State.endBank (s : State) : State :=
  match s.run.banks.find .held, s.run.banks.find .shown with
  | some _, some y => ((s.onBanks (·.move y .free)).bankFreed).pump
  | _, _ => s

end Sys2Proof.Machine
end

