-- ==== Sys2Proof/Machine/Event.lean ====
section
/-! DEFINITION. An application event, taken whole at the Setting Table (R4): what it alters, and stages 4 to 8. -/

namespace Sys2Proof.Machine

/-- What an event's first three stages leave: the table with its records changed and nothing stamped yet, and the keys of the records
it created and retired. A record retired and created again in one event is in both lists (R10). -/
structure Draft where
  table   : Table
  created : List RecKey
  retired : List RecKey
  deriving DecidableEq, Repr

/-- A draft that only changes fields. -/
def Draft.of (t : Table) : Draft := { table := t, created := [], retired := [] }

/-- The stamped fields an event alters: those of records it did not create whose values differ, in class, instance and identifier
order (R4). -/
def alteredRefs (t0 : Table) (d : Draft) : List Ref :=
  d.table.refs.filter fun r => r.field.stamped && !d.created.contains r.key && decide (t0.get r ≠ d.table.get r)

/-- Some altered field is a PLAN field (R66). -/
def planAltered (altered : List Ref) : Bool := altered.any fun r => r.field.kind == .plan

/-- Some altered field is a LIVE field (R66). -/
def liveAltered (altered : List Ref) : Bool := altered.any fun r => r.field.kind == .live

/-- Stage 4: with a PLAN field altered, the Planner writes the DERIVED fields (R66, R72). -/
def Draft.planned (t0 : Table) (d : Draft) : Draft :=
  if planAltered (alteredRefs t0 d) then { d with table := writeDerived (planOf d.table) d.table } else d

/-- Every record that takes a new stamp: those with an altered stamped field and those created (R4 stage 5), each once. -/
def touchedKeys (altered : List Ref) (created : List RecKey) : List RecKey :=
  (altered.map (·.key) ++ created).eraseDups

/-- A record's stamp, mark and intent gone with its retirement (R10). -/
def Table.forget (k : RecKey) (t : Table) : Table :=
  { t with stamps := dropKey k t.stamps, changeSet := eraseKey k t.changeSet, retired := insertKey k t.retired
           intents := dropKey k t.intents }

/-- A record stamped and marked (R4 stages 5 and 6); a key created again leaves the retired set (R12). -/
def Table.mark (stamp : Stamp) (k : RecKey) (t : Table) : Table :=
  { t with stamps := setKey k stamp t.stamps, changeSet := insertKey k t.changeSet, retired := eraseKey k t.retired }

/-- Stages 5 and 6: retirements, the counter, stamps and marks (R4, R5, R10 to R12). -/
def stampEvent (altered : List Ref) (d : Draft) : Table :=
  let t := d.retired.foldl (fun t k => t.forget k) d.table
  let touched := touchedKeys altered d.created
  if touched.isEmpty then t
  else
    let stamp := nextStamp t.counter
    touched.foldl (fun t k => t.mark stamp k) { t with counter := stamp }

/-- The owners whose events drop the intents on what they alter (R4 stage 7, R18). -/
def Owner.dropsIntents : Owner → Bool
  | .link | .recall | .defaults => true
  | .panel | .run | .fault => false

/-- Stage 7: the intents whose target field was altered are dropped (R18). -/
def dropIntents (owner : Owner) (altered : List Ref) (t : Table) : Table :=
  if owner.dropsIntents then
    { t with intents := t.intents.filter fun p => !altered.contains ⟨p.1, p.2.field⟩ }
  else t

/-- An amended KEYBIND stops the auto-repeat running on its key (R52). -/
def State.stopRepeats (altered : List Ref) (s : State) : State :=
  let keys := s.scanner.keys.mapIdx fun i e =>
    if altered.any (fun r => r.key == ⟨.keybind, i⟩) then { e with repeatAt := none } else e
  { s with scanner := { s.scanner with keys := keys } }

/-- An amended LAMPBIND resets its lamp's open count and ends FAILED (R60). -/
def State.rebindLamps (altered : List Ref) (s : State) : State :=
  let entries := s.lamps.entries.mapIdx fun i l =>
    if altered.any (fun r => r.key == ⟨.lampbind, i⟩) then
      match s.table.lampbinds[i]? with
      | some b => l.rebind (evalLamp s.table b)
      | none => l
    else l
  { s with lamps := { s.lamps with entries := entries } }

/-- The Planner's sets replaced and handed over (R66, R67): a re-plan or run-state change when a PLAN field was altered, a trigger
update when only LIVE fields were; `before` is the trigger mode before the event. -/
def State.handOver (before : TrigMode) (altered : List Ref) (s : State) : State :=
  if planAltered altered then ({ s with planner := plannerOf s.table }).handover.pump
  else if liveAltered altered then
    (({ s with planner := { s.planner with trig := trigCodesOf s.table } }).triggerUpdate before).pump
  else s

/-- Stage 8: the notifications of the kinds altered, each once (R2, R4). A change of guards alone does not reach the Composer. -/
def State.notify (before : TrigMode) (altered : List Ref) (d : Draft) (s : State) : State :=
  let s := s.notifyLamps fun r => altered.contains r || d.created.contains r.key || d.retired.contains r.key
  let s := (s.rebindLamps altered).stopRepeats altered
  let s := if altered.any (fun r => r.field.kind != .guard) || !d.created.isEmpty || !d.retired.isEmpty then s.recompose else s
  s.handOver before altered

/-- Stages 4 to 8 of an event on what its first stages left (R4). An event that alters no stamped field and creates and retires no
record leaves the whole part as it was. -/
def State.commit (owner : Owner) (d : Draft) (s : State) : State :=
  let p := d.planned s.table
  let altered := alteredRefs s.table p
  if altered.isEmpty && d.created.isEmpty && d.retired.isEmpty then s
  else
    let t := dropIntents owner altered (stampEvent altered p)
    ({ s with table := t }).notify s.table.trigger.mode altered p

/-! ## Requests of owner link and what they leave -/

/-- The dependents a response lists (R6): fields altered at stage 3 that the request did not name; DERIVED changes are not listed. -/
def dependents (t0 : Table) (d : Draft) (k : RecKey) (named : List Field) : List Ref :=
  (alteredRefs t0 d).filter fun r => !(r.key == k && named.contains r.field)

/-- A record taken out of the table. -/
def Table.removeRecord (k : RecKey) (t : Table) : Table :=
  match k.cls with
  | .cursor => { t with cursors := t.cursors.set (k.inst - 1) none }
  | .measurement => { t with measurements := t.measurements.set (k.inst - 1) none }
  | .annotation => { t with annotations := t.annotations.set (k.inst - 1) none }
  | _ => t

/-- A record put at a key with its class's creation defaults (R39 to R41). -/
def Table.addRecord (k : RecKey) (t : Table) : Table :=
  match k.cls with
  | .cursor => { t with cursors := t.cursors.set (k.inst - 1) (some newCursor) }
  | .measurement => { t with measurements := t.measurements.set (k.inst - 1) (some newMeasurement) }
  | .annotation => { t with annotations := t.annotations.set (k.inst - 1) (some newAnnotation) }
  | _ => t

/-- PANEL.focus becomes NONE where it names a retired record (R10, R36). -/
def Table.clearFocus (k : RecKey) (t : Table) : Table :=
  match t.panel.focus with
  | some r => if r.key = k then { t with panel := { t.panel with focus := none } } else t
  | none => t

/-- The draft of a RETIRE (R10). -/
def retireDraft (t : Table) (k : RecKey) : Draft :=
  { table := (t.removeRecord k).clearFocus k, created := [], retired := [k] }

/-- The draft that sets ACQUIRE.run_state (owners run and fault: R86, R170). -/
def runStateDraft (t : Table) (r : RunState) : Draft :=
  Draft.of { t with acquire := { t.acquire with runState := r } }

end Sys2Proof.Machine
end

