-- ==== Sys2Proof/Machine/PanelRules.lean ====
section
/-! DEFINITION. The Panel Scanner's rules, what a panel action does to the table, admission and intents (01_the_setting_table R15 to
R17, 03_front_panel R44 to R58). -/

namespace Sys2Proof.Machine

/-! ## Steps (R55) -/

/-- How one detent moves a field: one step of a sequence, or by an amount that is accelerated or not. -/
inductive StepRule where
  | stepped (steps : List Int)
  | amount (size : Int) (accelerated : Bool)
  deriving DecidableEq, Repr

/-- A voltage step of a channel: floor(scale / 50) (R55). -/
def voltStep (t : Table) (n : ChannelName) : Option StepRule :=
  (t.channelOf n).map fun c => .amount (floorDiv c.scale 50) true

/-- The size of one detent's move of a field (R55); none for a field that is not moved, and for the level while the source is LINE. -/
def stepRule (t : Table) (r : Ref) : Option StepRule :=
  match r.field with
  | .chScale => (nth1 t.channels r.key.inst).map fun c =>
      if c.fine then .amount (max 1 (floorDiv c.scale 100)) false else .stepped (channelSteps c.probe)
  | .chOffset => (nth1 t.channels r.key.inst).map fun c => .amount (floorDiv c.scale 50) true
  | .tbScale => some (.stepped timebaseSteps)
  | .tbPosition => some (.amount (floorDiv t.timebase.scale 100) true)
  | .trLevel =>
    match t.trigger.source with
    | .channel n => voltStep t n
    | .ext => some (.amount 25000 true)
    | .line => none
  | .trHoldoff => some (.amount (max 20 (floorDiv t.trigger.holdoff 100)) true)
  | .cuA | .cuB =>
    match nthPresent t.cursors r.key.inst with
    | some c =>
      match c.kind with
      | .voltage => voltStep t c.source
      | .time => some (.amount (floorDiv t.timebase.scale 100) true)
    | none => none
  | _ => none

/-- The value one detent asks for: the neighbouring step, or the held value moved by the step times the multiplier (R55, R57). -/
def stepValue (t : Table) (r : Ref) (up : Bool) (mult : Nat) : Option Value :=
  match stepRule t r, t.get r with
  | some (.stepped steps), some (.num v) => some (.num (neighbourStep steps up v))
  | some (.amount size acc), some (.num v) =>
    let move := if acc then size * mult else size
    some (.num (if up then v + move else v - move))
  | _, _ => none

/-! ## What an admitted action asks for (R50, R51, R57, R58) -/

/-- The next member of an enumerated field's set in this build, passing from the last back to the first (R50). -/
def nextMember (t : Table) (f : Field) (n p : Nat) : Nat :=
  (((List.range n).map fun i => (p + 1 + i) % n).find? (memberOk t f)).getD p

/-- The value TOGGLE or CYCLE gives a field (R50). -/
def cycleValue (t : Table) (r : Ref) : Option Value :=
  match r.field.sort, t.get r with
  | .truth, some (.truth b) => some (.truth !b)
  | .enumerated n, some (.enum p) => some (.enum (nextMember t r.field n p))
  | .number, some (.num v) =>
    if r.field = .tbLength then some (.num ((lengthChoices.find? fun l => decide (v < l)).getD 1000)) else none
  | _, _ => none

/-- The value a press action gives its target, where it gives one (R50, R51). A FOCUS carries the binding's target as its argument. -/
def pressValue (t : Table) (c : Control) (a : KeyAction) (r : Ref) (arg : Option Value) : Option Value :=
  match a with
  | .toggle | .cycle => cycleValue t r
  | .setValue => arg
  | .stepUp => stepValue t r true 1
  | .stepDown => stepValue t r false 1
  | .runToggle => some (runStateValue (if t.acquire.runState = .stop then .run else .stop))
  | .returnLocal => some (.num 2)
  | .focus =>
    match arg with
    | some (.ref x) => some (if t.panel.focus = some x then .absent else .ref x)
    | _ => none
  | .host =>
    match c with
    | .key k => some (.keys (insertNat k.val t.panel.hostKeys))
    | .knob _ => none
  | .force | .defaults | .none => none

/-- The field a push acts on (R58). -/
def pushRef (k : Fin 12) : Ref :=
  if k.val ≤ 3 then ⟨⟨.channel, k.val + 1⟩, .chFine⟩
  else if k.val ≤ 7 then ⟨⟨.channel, k.val - 3⟩, .chOffset⟩
  else if k.val = 9 then ⟨timebaseKey, .tbPosition⟩
  else if k.val = 10 then levelRef
  else hostKeysRef

/-- The value a push gives its field (R58). -/
def pushValue (t : Table) (k : Fin 12) : Option Value :=
  if k.val ≤ 3 then cycleValue t (pushRef k)
  else if k.val ≤ 7 ∨ k.val = 9 then some (.num 0)
  else if k.val = 10 then
    match t.trigger.source with
    | .channel n => (t.channelOf n).map fun c => .num c.offset
    | .ext => some (.num 0)
    | .line => none
  else some (.keys (insertNat (if k.val = 8 then 40 else 41) t.panel.hostKeys))

/-- A value written to one field by the panel, with its dependents and its flag. A value that the table would refuse from the link leaves
the table as it was: a SET_VALUE or an accepted intent (log 19), and a FOCUS whose binding's target record has been retired while the
press waited, which leaves PANEL.focus as it was and blinks no lamp (DESIGN CHOICE, log 52). -/
def panelWrite (t : Table) (r : Ref) (v : Option Value) : Table × List (Field × FieldOutcome) :=
  match v with
  | none => (t, [])
  | some v =>
    if t.has r.key && (r.field == .paHostKeys || (badValuePos t r.key [(r.field, some v)]).isNone) then
      applyRecord t r.key [(r.field, v)]
    else (t, [])

/-- One detent taken at the table. -/
def detentWrite (t : Table) (r : Ref) (up : Bool) (mult : Nat) : Table × List (Field × FieldOutcome) :=
  panelWrite t r (stepValue t r up mult)

/-- `n` detents in one direction applied to their field, each from what the one before it left and clamped in turn (R17), with the
later fields of the same record; the flag is the last one's (log 17). -/
def detentSteps (r : Ref) (up : Bool) : Nat → Table → Table × List (Field × FieldOutcome)
  | 0, t => (t, [])
  | n + 1, t =>
    match stepValue t r up 1 with
    | none => (t, [])
    | some v =>
      let a := applyField [(r.field, v)] t r v
      if n = 0 then (a.1, [(r.field, a.2)]) else detentSteps r up n a.1

/-- `n` detents in one direction, all within one event (R17): once they have been applied the record is finished, and the dependents in
other records are settled from the record's end values (R24, R28). -/
def detentsWrite (r : Ref) (up : Bool) (n : Nat) (t : Table) : Table × List (Field × FieldOutcome) :=
  if t.has r.key then
    let a := detentSteps r up n t
    (finishRecord t a.1 r.key, a.2)
  else (t, [])

/-- An intent's action performed on the current values as an action with authority 2 (R17). FORCE and DEFAULTS are handed on and
write nothing here. -/
def intentWrite (t : Table) (k : RecKey) (i : Intent) : Table × List (Field × FieldOutcome) :=
  match i.kind with
  | .key a => panelWrite t ⟨k, i.field⟩ (pressValue t i.control a ⟨k, i.field⟩ i.arg)
  | .push =>
    match i.control with
    | .knob n => panelWrite t ⟨k, i.field⟩ (pushValue t n)
    | .key _ => (t, [])
  | .detent => detentsWrite ⟨k, i.field⟩ (decide (0 < i.total)) i.total.natAbs t

/-! ## Admission and intents (R15, R16) -/

/-- A panel action on a field is admitted (R15). -/
def admitted (t : Table) (r : Ref) : Bool :=
  match t.guardOf r.key with
  | some g => decide (g ≤ t.panel.authority)
  | none => r.field != .paAuthority || !t.panel.localLockout

/-- The intent a refused action leaves on its record (R16); `up` is the direction of a refused detent. -/
def intentAfter (held : Option Intent) (c : Control) (kind : ActionKind) (f : Field) (up : Bool) (arg : Option Value) : Intent :=
  let step : Int := if up then 1 else -1
  let fresh : Intent := { control := c, kind := kind, field := f, total := if kind = .detent then step else 0, arg := arg }
  match held with
  | some i =>
    if i.control = c ∧ i.kind = kind ∧ i.field = f then
      if kind = .detent then { i with total := clampTo (-127) 127 (i.total + step) } else i
    else fresh
  | none => fresh

/-- The field that the intent of a refused detent names (R16): for K11 the one in PANEL.focus when it is refused, and none where the
focus is NONE; for another knob the one its detent carries (log 45). -/
def refusedRef (t : Table) (k : Fin 12) (r : Ref) : Option Ref := if k.val = 11 then t.panel.focus else some r

/-- The argument that the intent of a refused press holds (R16): for SET_VALUE that of the key's binding when the intent is set. Where
the key has been bound to something else since its press, it is the one the press carried (log 45). -/
def refusedArg (t : Table) (key : Fin 40) (a : KeyAction) (r : Ref) (arg : Option Value) : Option Value :=
  match a, t.keybinds[key.val]? with
  | .setValue, some b => if b.action = .setValue ∧ b.target = some r then b.argument else arg
  | _, _ => arg

/-! ## Press actions (R48, R52) -/

/-- The target for admission of a press action (R48). -/
def pressTarget (k : Keybind) : Option Ref :=
  match k.action with
  | .toggle | .cycle | .setValue | .stepUp | .stepDown => k.target
  | .runToggle | .force | .defaults => some runStateRef
  | .returnLocal => some authorityRef
  | .focus => some focusRef
  | .host => some hostKeysRef
  | .none => none

/-- The binding's target record is not there: an unbuilt channel or an absent dynamic record (R48). -/
def targetAbsent (t : Table) (k : Keybind) : Bool := k.target.any fun r => !t.has r.key

/-- An action that repeats while its key is held (R52). -/
def KeyAction.steps : KeyAction → Bool
  | .stepUp | .stepDown => true
  | .toggle | .cycle | .setValue | .runToggle | .force | .defaults | .returnLocal | .focus | .host | .none => false

/-- A step of the trigger level while the source is LINE (R48, R52). -/
def stepsLineLevel (t : Table) (k : Keybind) : Bool :=
  k.action.steps && k.target == some levelRef && t.trigger.source == .line

/-- The press action a binding builds; none for an inert press (R48). Its target, and a SET_VALUE's argument when it is admitted, are
those of the press (log 45). -/
def pressAction (t : Table) (key : Fin 40) (k : Keybind) : Option PanelAction :=
  if targetAbsent t k || stepsLineLevel t k then none
  else
    let arg := match k.action with
      | .setValue => k.argument
      | .focus => k.target.map Value.ref
      | _ => none
    (pressTarget k).map fun r => .press key k.action r arg

/-! ## Debouncing (R45 to R47) -/

/-- The debounced level of a state: PRESSED and BLOCKED are down. -/
def KeyState.down : KeyState → Bool
  | .blocked | .pressed => true
  | .released => false

/-- One scan of a key or push switch outside ghost hold (R45, R46): the entry, and whether it has just become PRESSED. -/
def KeyEntry.scan (debounce : Nat) (down : Bool) (e : KeyEntry) : KeyEntry × Bool :=
  if down = e.state.down then ({ e with count := 0 }, false)
  else if e.count + 1 < debounce then ({ e with count := e.count + 1 }, false)
  else match e.state with
    | .blocked | .pressed => ({ state := .released, count := 0, repeatAt := none }, false)
    | .released => ({ e with state := .pressed, count := 0 }, true)

/-- The number of set bits. -/
def bitCount {w : Nat} (x : BitVec w) : Nat := ((List.range w).filter fun i => x.getLsbD i).length

/-- A press submitted by key `k` at `now`: the action, if it is not inert, and the repeat target time it starts (R48, R52). -/
def keyPressed (t : Table) (now : Time) (k : Fin 40) (e : KeyEntry) : KeyEntry × List PanelAction :=
  match t.keybinds[k.val]? with
  | none => (e, [])
  | some b =>
    match pressAction t k b with
    | none => (e, [])
    | some a => (if b.action.steps then { e with repeatAt := some (after now 500000) } else e, [a])

/-- One key's scan with what it submits. -/
def scanKey (t : Table) (now : Time) (down : Bool) (k : Fin 40) (e : KeyEntry) : KeyEntry × List PanelAction :=
  let r := e.scan t.panel.debounceMs down
  if r.2 then keyPressed t now k r.1 else (r.1, [])

/-- The knobs whose lines and push switches are read: in a 2-channel build K2, K3, K6 and K7 are not (R53, R58). -/
def knobRead (t : Table) (k : Fin 12) : Bool :=
  decide (t.channels.length = 4) || !(k.val == 2 || k.val == 3 || k.val == 6 || k.val == 7)

/-- One push switch's scan with what it submits; a K10 push while the source is LINE is inert (R58). -/
def scanPush (t : Table) (down : Bool) (k : Fin 12) (e : KeyEntry) : KeyEntry × List PanelAction :=
  if !knobRead t k then (e, [])
  else
    let r := e.scan t.panel.debounceMs down
    let inert := k.val == 10 && t.trigger.source == .line
    (r.1, if r.2 && !inert then [.push k (pushRef k)] else [])

/-- One scan of the matrix and the push switches (R44 to R48, R58). -/
def State.scanPanel (keys : BitVec 40) (pushes : BitVec 12) (s : State) : State :=
  let ghost := decide (3 ≤ bitCount keys)
  let k : List (KeyEntry × List PanelAction) :=
    (List.finRange 40).zipWith (fun i e =>
      if ghost then ({ e with count := 0 }, []) else scanKey s.table s.clock.now (keys.getLsbD i.val) i e) s.scanner.keys
  let p : List (KeyEntry × List PanelAction) :=
    (List.finRange 12).zipWith (fun i e => scanPush s.table (pushes.getLsbD i.val) i e) s.scanner.pushes
  { s with
    scanner := { s.scanner with keys := k.map (·.1), pushes := p.map (·.1), ghost := ghost }
    inbox := { s.inbox with actions := s.inbox.actions ++ k.flatMap (·.2) ++ p.flatMap (·.2) } }

/-! ## Knobs (R53, R54, R56) -/

/-- What a sample against the reference is (R53). -/
inductive Turn where
  | none | cw | ccw | double
  deriving DecidableEq, Repr

/-- The next pair of the clockwise sequence (0,0), (1,0), (1,1), (0,1) (R53). -/
def clockwise (p : Bool × Bool) : Bool × Bool := (!p.2, p.1)

/-- A sample compared with the reference (R53). -/
def turnOf (reference sample : Bool × Bool) : Turn :=
  if sample = reference then .none
  else if sample = clockwise reference then .cw
  else if reference = clockwise sample then .ccw
  else .double

/-- The quarter count after an edge, and the detent it completes (R54). -/
def quarterAfter (edges : Nat) (quarter : Int) (d : Dir) : Int × Option Dir :=
  let q := match d with | .cw => quarter + 1 | .ccw => quarter - 1
  if (edges : Int) ≤ q then (0, some .cw) else if q ≤ -(edges : Int) then (0, some .ccw) else (q, none)

/-- The field a knob drives (R53); K11's is the one PANEL.focus names. -/
def knobRef (t : Table) (k : Fin 12) : Option Ref :=
  if k.val ≤ 3 then some ⟨⟨.channel, k.val + 1⟩, .chScale⟩
  else if k.val ≤ 7 then some ⟨⟨.channel, k.val - 3⟩, .chOffset⟩
  else if k.val = 8 then some ⟨timebaseKey, .tbScale⟩
  else if k.val = 9 then some ⟨timebaseKey, .tbPosition⟩
  else if k.val = 10 then some levelRef
  else t.panel.focus

/-- The multiplier of a count of entries younger than 100 ms (R56). -/
def multiplier (accel : Bool) (young : Nat) : Nat :=
  if !accel then 1 else if young < 5 then 1 else if young < 10 then 5 else 20

/-- The recent-detent list with a new detent (R56): emptied by a change of direction, at most 20 entries, newest last. -/
def recentAfter (e : KnobEntry) (d : Dir) (now : Time) : List Time :=
  let kept := match e.lastDir with
    | some l => if l = d then e.recent else []
    | none => e.recent
  (if 20 ≤ kept.length then kept.drop 1 else kept) ++ [now]

/-- A completed detent of a knob: discarded, with the last direction left as it was (log 44), or entered in the list and handed on
with its multiplier (R54, R56, R57). The field that a K11 detent is admitted on and moves is the one PANEL.focus names here (R54;
log 45). -/
def completeDetent (t : Table) (now : Time) (k : Fin 12) (d : Dir) (e : KnobEntry) : KnobEntry × List PanelAction :=
  match knobRef t k with
  | none => (e, [])
  | some r =>
    if t.trigger.source = .line ∧ r = levelRef then (e, [])
    else
      let recent := recentAfter e d now
      let young := (recent.filter fun x => decide ((now - x).toNat < 100000)).length
      ({ e with recent := recent, lastDir := some d }, [.detent k r d (multiplier t.panel.accel young)])

/-- What one sample of a knob does: the entry, the action it hands on, and whether it is a double step (R53). -/
def sampleKnob (t : Table) (now : Time) (k : Fin 12) (sample : Bool × Bool) (e : KnobEntry) : KnobEntry × List PanelAction × Bool :=
  match e.levels with
  | none => ({ e with levels := some sample }, [], false)
  | some reference =>
    let e' := { e with levels := some sample }
    let edge (d : Dir) : KnobEntry × List PanelAction × Bool :=
      let q := quarterAfter (t.panel.knobEdges.getD k.val 4) e.quarter d
      match q.2 with
      | none => ({ e' with quarter := q.1 }, [], false)
      | some dir =>
        let c := completeDetent t now k dir { e' with quarter := q.1 }
        (c.1, c.2, false)
    match turnOf reference sample with
    | .none => (e', [], false)
    | .cw => edge .cw
    | .ccw => edge .ccw
    | .double => (e', [], true)

/-- One knob's sample taken into the machine; a double step is reported (R53, R168). -/
def State.sampleOne (a b : BitVec 12) (s : State) (k : Fin 12) : State :=
  match s.scanner.knobs[k.val]? with
  | none => s
  | some e =>
    if !knobRead s.table k then s
    else
      let r := sampleKnob s.table s.clock.now k (a.getLsbD k.val, b.getLsbD k.val) e
      let s' := { s with
        scanner := { s.scanner with knobs := s.scanner.knobs.set k.val r.1 }
        inbox := { s.inbox with actions := s.inbox.actions ++ r.2.1 } }
      if r.2.2 then s'.report .encoderGlitch (some (.knob k.val)) else s'

/-- One sample of every knob (R53). Double steps of one sample are reported in ascending knob order (R169 leaves the order open: DESIGN
CHOICE, log 48). -/
def State.sampleKnobs (a b : BitVec 12) (s : State) : State := (List.finRange 12).foldl (State.sampleOne a b) s

end Sys2Proof.Machine
end

