-- ==== Sys2Proof/Machine/Screen.lean ====
section
/-! DEFINITION. What a frame draws: geometry, text, number formatting and every layer but the traces (06_screen_composition R99 to
R101, R107 to R114, 08_cursors_measurements_and_readouts). Everything is computed from the view snapshot. -/

namespace Sys2Proof.Machine

/-! ## Frame buffers (R99 to R102) -/

/-- Screen columns and rows (R99). -/
def screenWidth : Nat := 1024
def screenHeight : Nat := 600

/-- A paint lies inside the screen and writes a palette index below 16 (R99 to R101). -/
def Paint.ok : Paint → Bool
  | .rect x0 y0 x1 y1 c => decide (x0 ≤ x1 ∧ x1 < screenWidth ∧ y0 ≤ y1 ∧ y1 < screenHeight ∧ c < 16)
  | .dashedDown x y0 y1 c => decide (x < screenWidth ∧ y0 ≤ y1 ∧ y1 < screenHeight ∧ c < 16)
  | .dashedAcross y x0 x1 c => decide (y < screenHeight ∧ x0 ≤ x1 ∧ x1 < screenWidth ∧ c < 16)
  | .glyph col row _ fg bg => decide (col < 128 ∧ row < 37 ∧ fg < 16) && bg.all fun b => decide (b < 16)

/-- The glyph pixel of a character (R100); the glyph of 20h has no lit pixels. -/
def glyphPixel (ch : Char) (row col : Nat) : Bool := ch != ' ' && Config.glyphLit ch row col

/-- What a paint writes at a pixel: none where it writes nothing. -/
def Paint.pixel (p : Paint) (x y : Nat) : Option Nat :=
  match p with
  | .rect x0 y0 x1 y1 c => if x0 ≤ x ∧ x ≤ x1 ∧ y0 ≤ y ∧ y ≤ y1 then some c else none
  | .dashedDown x0 y0 y1 c => if x = x0 ∧ y0 ≤ y ∧ y ≤ y1 ∧ (y - 48) % 4 < 2 then some c else none
  | .dashedAcross y0 x0 x1 c => if y = y0 ∧ x0 ≤ x ∧ x ≤ x1 ∧ (x - 12) % 4 < 2 then some c else none
  | .glyph col row ch fg bg =>
    if x / 8 = col ∧ y / 16 = row then (if glyphPixel ch (y % 16) (x % 8) then some fg else bg) else none

/-- The palette index of a pixel of a buffer: what the newest paint that writes it left, 0 where none does (R102). -/
def FrameBuffer.pixel (b : FrameBuffer) (x y : Nat) : Nat := (b.findSome? fun p => p.pixel x y).getD 0

/-- A colour of the display output: red, green and blue, each 0-255 (R101). -/
structure Colour where
  red   : Nat
  green : Nat
  blue  : Nat
  deriving DecidableEq, Repr

/-- The fixed palette, index 0 first (R101). -/
def palette : List Colour :=
  [⟨0, 0, 0⟩, ⟨96, 96, 96⟩, ⟨255, 224, 0⟩, ⟨0, 208, 255⟩, ⟨255, 64, 200⟩, ⟨48, 224, 64⟩, ⟨255, 140, 0⟩, ⟨224, 224, 224⟩,
   ⟨255, 255, 255⟩, ⟨120, 120, 120⟩, ⟨255, 48, 48⟩, ⟨48, 96, 255⟩, ⟨160, 255, 160⟩, ⟨255, 255, 160⟩, ⟨160, 200, 255⟩,
   ⟨200, 120, 255⟩]

/-- The colour the display output turns a pixel's index into as it scans a buffer out (R101). -/
def FrameBuffer.colour (b : FrameBuffer) (x y : Nat) : Option Colour := palette[b.pixel x y]?

/-- Paints written over a buffer in order. -/
def FrameBuffer.draw (b : FrameBuffer) (paints : List Paint) : FrameBuffer :=
  paints.foldl (fun b p => if p.ok then p :: b else b) b

/-- Every paint of a buffer lies inside the screen with a palette index below 16. -/
def FrameBuffer.wf (b : FrameBuffer) : Bool := b.all Paint.ok

/-! ## Drawing in the trace area (R99) -/

/-- A filled box in trace coordinates, cut to trace columns 0-999 and trace rows 0-399. -/
def traceBox (x0 y0 x1 y1 : Int) (colour : Nat) : List Paint :=
  let a := max x0 0
  let b := min x1 999
  let c := max y0 0
  let d := min y1 399
  if a ≤ b ∧ c ≤ d then [.rect (12 + a.toNat) (48 + c.toNat) (12 + b.toNat) (48 + d.toNat) colour] else []

/-- The five bars, j from 0 to 4, of a triangle. -/
def fiveBars (bar : Int → List Paint) : List Paint := [0, 1, 2, 3, 4].flatMap bar

/-- The edges of the trace area (R111). -/
inductive Edge where
  | left | right | up | down
  deriving DecidableEq, Repr

/-- An edge arrow centred on a trace row or column, brought within 4-395 or 4-995 (R111). -/
def edgeArrow (e : Edge) (centre : Int) (colour : Nat) : List Paint :=
  let y := clampTo 4 395 centre
  let x := clampTo 4 995 centre
  match e with
  | .right => fiveBars fun j => traceBox (999 - j) (y - j) (999 - j) (y + j) colour
  | .left => fiveBars fun j => traceBox j (y - j) j (y + j) colour
  | .up => fiveBars fun j => traceBox (x - j) j (x + j) j colour
  | .down => fiveBars fun j => traceBox (x - j) (399 - j) (x + j) (399 - j) colour

/-- A code's trace row (R122). -/
def rowOfCode (c : Int) : Int := if 3647 < c then 0 else if c < 448 then 399 else 399 - floorDiv (c - 448) 8

/-! ## The view's time axis (R99) -/

/-- The column width Wc, in ps. -/
def View.columnWidth (v : View) : Int := floorDiv v.scale 100

/-- The left-edge time tL, in ps. -/
def View.leftEdge (v : View) : Int := v.position - 5 * v.scale

/-- The trace column a time falls in. -/
def View.columnOf (v : View) (t : Int) : Int := floorDiv (t - v.leftEdge) v.columnWidth

/-- A channel of the snapshot. -/
def View.channel (v : View) (n : ChannelName) : Option ViewChannel := v.channels.find? fun c => c.chan == n

/-! ## Text (R100) -/

/-- Text from a text cell to the right; characters in text column 128 or beyond are not drawn. `bg` is absent for transparent text. -/
def textAt (row col : Nat) (text : Text) (fg : Nat) (bg : Option Nat) : List Paint :=
  (text.take (128 - col)).zipIdx.map fun p => .glyph (col + p.2) row p.1 fg bg

/-- Opaque text on background index 0. -/
def opaqueText (row col : Nat) (text : Text) (fg : Nat) : List Paint := textAt row col text fg (some 0)

/-- Words separated by single spaces. -/
def spaced : List Text → Text
  | [] => []
  | [t] => t
  | t :: rest => t ++ ' ' :: spaced rest

/-- A natural number in plain decimal digits. -/
def decimal (n : Nat) : Text := Nat.toDigits 10 n

/-! ## Number formatting (R132, R133) -/

/-- The quantities of R133. -/
inductive Quantity where
  | time | voltage | frequency
  deriving DecidableEq, Repr

/-- The prefix ladder of R133. -/
def prefixLadder : List Text := [['p'], ['n'], ['u'], ['m'], [], ['k'], ['M'], ['G'], ['T']]

/-- Where a quantity's base unit starts on the ladder. -/
def Quantity.start : Quantity → Nat
  | .time => 0
  | .voltage => 2
  | .frequency => 3

/-- A quantity's unit letters. -/
def Quantity.letters : Quantity → Text
  | .time => ['s']
  | .voltage => ['V']
  | .frequency => ['H', 'z']

/-- The exponent and the three significant digits of a magnitude that is not 0 (R132 steps 1 to 3). -/
def significant (n : Nat) : Nat × Nat :=
  let e := (decimal n).length - 1
  let q := if 2 ≤ e then (2 * n + 10 ^ (e - 2)) / (2 * 10 ^ (e - 2)) else n * 10 ^ (2 - e)
  if q = 1000 then (e + 1, 100) else (e, q)

/-- Three digits with the decimal point after the first `before`; no point when all three stand before it. -/
def mantissa (q lead : Nat) : Text :=
  let digits := decimal q
  if lead ≥ 3 then digits else digits.take lead ++ '.' :: digits.drop lead

/-- A quantity's text (R132, R133); an absent value is "----". -/
def formatted (u : Quantity) (v : Option Int) : Text :=
  match v with
  | none => "----".toList
  | some v =>
    if v = 0 then '0' :: ' ' :: u.letters
    else
      let m := significant v.natAbs
      let sign : Text := if v < 0 then ['-'] else []
      sign ++ mantissa m.2 (m.1 % 3 + 1) ++ ' ' :: (prefixLadder.getD (u.start + m.1 / 3) [] ++ u.letters)

/-! ## Names -/

def ChannelName.text : ChannelName → Text
  | .ch1 => "CH1".toList
  | .ch2 => "CH2".toList
  | .ch3 => "CH3".toList
  | .ch4 => "CH4".toList

def TrigSource.text : TrigSource → Text
  | .channel c => c.text
  | .ext => "EXT".toList
  | .line => "LINE".toList

def Slope.text : Slope → Text
  | .rise => "RISE".toList
  | .fall => "FALL".toList
  | .either => "EITHER".toList

def Coupling.text : Coupling → Text
  | .dc => "DC".toList
  | .ac => "AC".toList
  | .gnd => "GND".toList

def RunState.text : RunState → Text
  | .stop => "STOP".toList
  | .run => "RUN".toList
  | .single => "SINGLE".toList

def TrigStatus.text : TrigStatus → Text
  | .waiting => "WAITING".toList
  | .triggered => "TRIGGERED".toList
  | .forced => "FORCED".toList
  | .auto => "AUTO".toList

/-- The storage activity shown on the status line; none while ABSENT or IDLE (R113). -/
def StoreState.activity : StoreState → Text
  | .absent | .idle => []
  | .scanning => "SCANNING".toList
  | .storing => "STORING".toList
  | .recalling => "RECALLING".toList
  | .erasing => "ERASING".toList

/-- A measurement's name and quantity (R135). -/
def MeasKind.item : MeasKind → Text × Quantity
  | .frequency => ("FREQ".toList, .frequency)
  | .period => ("PER".toList, .time)
  | .pkPk => ("PK-PK".toList, .voltage)
  | .amplitude => ("AMPL".toList, .voltage)
  | .mean => ("MEAN".toList, .voltage)
  | .rms => ("RMS".toList, .voltage)
  | .max => ("MAX".toList, .voltage)
  | .min => ("MIN".toList, .voltage)
  | .rise => ("RISE".toList, .time)
  | .fall => ("FALL".toList, .time)
  | .posWidth => ("+WID".toList, .time)
  | .negWidth => ("-WID".toList, .time)

/-! ## Layer 2: the graticule (R108) -/

/-- A full-height line at a trace column. -/
def columnLine (x : Int) (colour : Nat) : List Paint := traceBox x 0 x 399 colour

/-- A full-width line at a trace row. -/
def rowLine (y : Int) (colour : Nat) : List Paint := traceBox 0 y 999 y colour

/-- The ticks on both centre lines. -/
def ticks : List Paint :=
  (List.range 50).flatMap (fun (i : Nat) => traceBox (20 * (i : Int)) 198 (20 * (i : Int)) 202 1)
    ++ (List.range 40).flatMap fun (i : Nat) => traceBox 498 (10 * (i : Int)) 502 (10 * (i : Int)) 1

/-- The graticule in a style. -/
def graticuleLayer (g : Graticule) : List Paint :=
  match g with
  | .full =>
    [0, 100, 200, 300, 400, 500, 600, 700, 800, 900, 999].flatMap (columnLine · 1)
      ++ [0, 50, 100, 150, 200, 250, 300, 350, 399].flatMap (rowLine · 1) ++ ticks
  | .axes => columnLine 500 1 ++ rowLine 200 1 ++ ticks
  | .frame => columnLine 0 1 ++ columnLine 999 1 ++ rowLine 0 1 ++ rowLine 399 1

/-! ## Layer 4: cursors (R128 to R130) -/

/-- A TIME cursor's marker (R129). -/
def timeMarker (v : View) (t : Int) (dashed : Bool) : List Paint :=
  let x := v.columnOf t
  let arrowRow : Int := if dashed then 24 else 12
  if 999 < x then edgeArrow .right arrowRow 6
  else if x < 0 then edgeArrow .left arrowRow 6
  else if dashed then [.dashedDown (12 + x.toNat) 48 447 6]
  else columnLine x 6

/-- The code of a voltage on a channel's view, turned over by its invert (R110, R130). -/
def viewCode (c : ViewChannel) (volts : Int) : Int :=
  let code := 2048 + roundDiv ((volts - c.offset) * 400) c.scale
  if c.invert then 4096 - code else code

/-- A VOLTAGE cursor's marker (R130). -/
def voltMarker (c : ViewChannel) (volts : Int) (dashed : Bool) : List Paint :=
  let code := viewCode c volts
  let arrowColumn : Int := if dashed then 40 else 20
  if 3647 < code then edgeArrow .up arrowColumn 6
  else if code < 448 then edgeArrow .down arrowColumn 6
  else if dashed then [.dashedAcross (48 + (rowOfCode code).toNat) 12 1011 6]
  else rowLine (rowOfCode code) 6

/-- A cursor is drawn and has a readout (R128, R130, R138). -/
def cursorDrawn (v : View) (c : Cursor) : Bool :=
  c.shown && (match c.kind with
    | .time => true
    | .voltage => (v.channel c.source).any fun x => x.display == .on)

/-- One cursor: marker a and then marker b. -/
def cursorPaints (v : View) (c : Cursor) : List Paint :=
  if cursorDrawn v c then
    match c.kind with
    | .time => timeMarker v c.a false ++ timeMarker v c.b true
    | .voltage =>
      match v.channel c.source with
      | some x => voltMarker x c.a false ++ voltMarker x c.b true
      | none => []
  else []

def cursorLayer (v : View) : List Paint := v.cursors.flatMap fun p => cursorPaints v p.2

/-! ## Layer 5: trigger markers (R109, R110) -/

/-- The trigger-position marker (R109). -/
def positionMarker (v : View) : List Paint :=
  let xt := v.columnOf 0
  if 999 < xt then edgeArrow .right 4 7
  else if xt < 0 then edgeArrow .left 4 7
  else fiveBars fun j => traceBox (xt - (4 - j)) j (xt + (4 - j)) j 7

/-- The trigger-level marker for a code (R110). -/
def levelMarkerAt (code : Int) (colour : Nat) : List Paint :=
  if 3647 < code then edgeArrow .up 995 colour
  else if code < 448 then edgeArrow .down 995 colour
  else fiveBars fun j => traceBox (995 + j) (rowOfCode code - j) (995 + j) (rowOfCode code + j) colour

/-- The trigger-level marker (R110). -/
def levelMarker (v : View) : List Paint :=
  match v.source, v.level with
  | .channel n, some level =>
    match v.channel n with
    | some c => levelMarkerAt (viewCode c level) c.colour
    | none => []
  | .ext, some level => levelMarkerAt (2048 + roundDiv (level * 400) 1250000) 7
  | _, _ => []

/-! ## Layer 6: annotations (R112) -/

def annotationLayer (v : View) : List Paint :=
  v.annotations.flatMap fun p => textAt p.2.row p.2.column p.2.text p.2.colour none

/-! ## Layer 7: the readout band (R131, R135 to R138) -/

/-- An item of the band: its text and colour. -/
abbrev BandItem := Text × Nat

/-- The item of an active channel (R137). -/
def channelItem (c : ViewChannel) : BandItem :=
  (spaced ([c.chan.text, formatted .voltage (some c.scale), c.coupling.text]
    ++ (if c.invert then ["INV".toList] else []) ++ c.label.toList), c.colour)

/-- The timebase item (R137). -/
def timebaseItem (v : View) : BandItem :=
  (spaced ["TB".toList, formatted .time (some v.scale), '@' :: formatted .time (some v.position)], 8)

/-- The trigger item (R137). -/
def triggerItem (v : View) : BandItem :=
  (spaced (["TRIG".toList, v.source.text, v.slope.text]
    ++ (if v.source = .line then [] else [formatted .voltage v.level])), 8)

/-- The acquisition item (R137). -/
def acquisitionItem (v : View) : BandItem :=
  (spaced ["SI".toList, formatted .time (some v.intervalPs), "LEN".toList, decimal v.lengthEff.toNat], 8)

/-- The item of a measurement (R135). -/
def measurementItem (m : Measurement) : BandItem :=
  (spaced [m.kind.item.1, m.source.text, formatted m.kind.item.2 m.value], if m.status = .stale then 9 else 8)

/-- The inverse of a time difference, in mHz (R131). -/
def inverseOf (dt : Int) : Option Int := if dt = 0 then none else some (roundDiv (10 ^ 15) dt)

/-- The item of a cursor with a readout (R138). -/
def cursorItem (n : Nat) (c : Cursor) : BandItem :=
  let name : Text := 'C' :: decimal n
  let d := c.b - c.a
  match c.kind with
  | .time => (spaced [name, c.source.text, "dT".toList, formatted .time (some d), formatted .frequency (inverseOf d)], 6)
  | .voltage => (spaced [name, c.source.text, "dV".toList, formatted .voltage (some d)], 6)

/-- A channel of the snapshot is active (R29). -/
def View.activeChannels (v : View) : List ViewChannel :=
  v.channels.filter fun c => c.display == .on || v.source == .channel c.chan

/-- The items of the band in slot order (R136). -/
def bandItems (v : View) : List BandItem :=
  v.activeChannels.map channelItem ++ [timebaseItem v, triggerItem v, acquisitionItem v]
    ++ v.measurements.map (fun p => measurementItem p.2)
    ++ (v.cursors.filter fun p => cursorDrawn v p.2).map fun p => cursorItem p.1 p.2

/-- The readout band (R136): the first 16 items, each cut to 30 characters, in its slot. -/
def readoutLayer (v : View) : List Paint :=
  match v.readouts with
  | .off => []
  | .on => ((bandItems v).take 16).zipIdx.flatMap fun p =>
      opaqueText (28 + p.2 / 4) (32 * (p.2 % 4) + 1) (p.1.1.take 30) p.1.2

/-! ## Layers 8 and 9: the status line and the soft-key band (R113, R114) -/

/-- The authority's name; none at LOCAL (R113). -/
def authorityText (a : Nat) : Text := if a = 0 then "LOCKED".toList else if a = 1 then "REMOTE".toList else []

/-- The status line (R113). -/
def statusLayer (v : View) : List Paint :=
  let item (col : Nat) (t : Text) : List Paint := opaqueText 1 col t 8
  item 1 v.runState.text ++ item 9 v.trigStatus.text
    ++ item 20 (if v.acqState = .offline then "OFFLINE".toList else [])
    ++ item 30 v.storeState.activity
    ++ item 42 (if v.acqMode = .peak then "PEAK".toList else [])
    ++ item 120 (authorityText v.authority)

/-- Soft-key box k, from 1 to 7: its cells in the background colour and its label over them (R114). -/
def softKeyBox (m : Menu) (k : Nat) : List Paint :=
  let inverted := decide (m.highlight = k)
  let bg := if inverted then 8 else 0
  let fg := if inverted then 0 else 8
  let left := 18 * k - 17
  let label := (m.soft.getD (k - 1) none).getD []
  .rect (8 * left) 528 (8 * (18 * k) + 7) 575 bg :: textAt 34 (left + (18 - label.length) / 2) label fg (some bg)

/-- The soft-key band (R114). -/
def softKeyLayer (v : View) : List Paint :=
  opaqueText 32 1 (v.menu.title.getD []) 8 ++ [1, 2, 3, 4, 5, 6, 7].flatMap (softKeyBox v.menu)

/-- The layers after the traces, in order (R107). -/
def upperLayers (v : View) : List Paint :=
  cursorLayer v ++ positionMarker v ++ levelMarker v ++ annotationLayer v ++ readoutLayer v ++ statusLayer v ++ softKeyLayer v

end Sys2Proof.Machine
end

