-- ==== Sys2Proof/Machine/Composer.lean ====
section
/-! DEFINITION. The Composer: the view snapshot, the trace passes, frame start, frame end and the vertical blank
(06_screen_composition R102 to R107, 07_waveform_mapping). -/

namespace Sys2Proof.Machine

/-! ## The view snapshot (R105) -/

/-- A list of places counted from 1, as the records present with their instance numbers. -/
def presentRecords {α : Type} (l : List (Option α)) : List (Nat × α) :=
  l.zipIdx.filterMap fun p => p.1.map fun x => (p.2 + 1, x)

/-- The channels of the build, as the snapshot holds them. -/
def viewChannels (t : Table) : List ViewChannel :=
  (ChannelName.positions.zip t.channels).map fun p =>
    { chan := p.1, probe := p.2.probe, fine := p.2.fine, scale := p.2.scale, offset := p.2.offset, coupling := p.2.coupling
      display := p.2.display, invert := p.2.invert, label := p.2.label, colour := p.2.colour }

/-- The SHOWN bank and its descriptor. -/
def shownBank (b : Banks) : Option (Bank × Descriptor) :=
  (b.find .shown).bind fun x => (b.get x).desc.map fun d => (x, d)

/-- The view snapshot of the table and the bank table as they stand (R105). -/
def snapshotOf (t : Table) (b : Banks) : View :=
  { channels := viewChannels t
    scale := t.timebase.scale, position := t.timebase.position
    source := t.trigger.source, slope := t.trigger.slope, level := t.trigger.level, trigMode := t.trigger.mode
    runState := t.acquire.runState, acqMode := t.acquire.acqMode, intervalPs := t.acquire.intervalPs
    lengthEff := t.acquire.lengthEff, acqState := t.acquire.acqState, trigStatus := t.acquire.trigStatus
    graticule := t.display.graticule, draw := t.display.draw, readouts := t.display.readouts
    authority := t.panel.authority, focus := t.panel.focus, menu := t.menu
    captureOnline := t.system.captureOnline, storeState := t.system.storeState
    cursors := presentRecords t.cursors, measurements := presentRecords t.measurements
    annotations := presentRecords t.annotations, shown := shownBank b }

/-! ## Columns and samples (R117, R118) -/

/-- Sample 0's place on the trigger's axis: d = delay - pre (R118). -/
def Descriptor.shift (d : Descriptor) : Int := d.delay - d.pre

/-- The sample range of a column (R118); it is empty when the first exceeds the last. -/
def sampleRange (v : View) (d : Descriptor) (x : Nat) : Int × Int :=
  let sx := v.leftEdge + x * v.columnWidth
  (max 0 (ceilDiv sx d.interval - d.shift),
   min (d.length - 1) (ceilDiv (sx + v.columnWidth) d.interval - d.shift - 1))

/-- A column holds samples. -/
def columnHolds (v : View) (d : Descriptor) (x : Nat) : Bool := decide ((sampleRange v d x).1 ≤ (sampleRange v d x).2)

/-- The next non-empty column at or after `x` in 0-999. -/
def nextColumn (v : View) (d : Descriptor) (x : Nat) : Option Nat :=
  (List.range' x (1000 - x)).find? (columnHolds v d)

/-! ## Traces (R107, R116) -/

/-- A channel has a trace: in the build, displayed, and in the descriptor's channel set (R116). -/
def channelDrawn (v : View) (d : Descriptor) (n : ChannelName) : Bool :=
  ((v.channel n).any fun c => c.display == .on) && d.chans.any fun c => c.chan == n

/-- The channel that PANEL.focus names a field of, whose trace is taken last (R107). -/
def focusChannel (v : View) : Option ChannelName :=
  v.focus.bind fun r => if r.key.cls = .channel then channelName? r.key.inst else none

/-- The channels to draw, in layer order (R107, R116). -/
def traceOrder (v : View) : List ChannelName :=
  match v.shown with
  | none => []
  | some (_, d) =>
    let drawn := ChannelName.positions.filter (channelDrawn v d)
    match focusChannel v with
    | some n => drawn.filter (· ≠ n) ++ drawn.filter (· = n)
    | none => drawn

/-- The trace in hand moved to its next reduction (R119): the next non-empty column of the pass, else the next channel's pass. In
VECTOR a run of empty columns is drawn when the reduction that ends it is answered (R124). -/
def nextReduction (v : View) (x : Bank) (d : Descriptor) : List ChannelName → Nat → Option Nat → Trace × Option Reduce
  | [], _, _ => (noTrace, none)
  | n :: rest, col, carry =>
    match nextColumn v d col with
    | some cb =>
      ({ todo := n :: rest, col := col, carry := carry, asked := some cb },
       some { bank := x, chan := n, first := (sampleRange v d cb).1, last := (sampleRange v d cb).2 })
    | none => nextReduction v x d rest 0 none

/-- The Composer goes on with its traces: it offers its next reduction, or has none left. -/
def State.advanceTrace (s : State) : State :=
  match s.composer.snapshot with
  | none => s.pump
  | some v =>
    match v.shown with
    | none => s.pump
    | some (x, d) =>
      let n := nextReduction v x d s.composer.trace.todo s.composer.trace.col s.composer.trace.carry
      let s := { s with composer := { s.composer with trace := n.1 } }
      match n.2 with
      | some r => s.offerReduce r
      | none => s.pump

/-- A captured code rescaled from the settings at arming to those of the view (R120); the rails are not rescaled. -/
def rescale (d : ChanDesc) (c : ViewChannel) (code : Nat) : Int :=
  if code = 0 ∨ code = 4095 then code
  else if 4095 < code then Config.codeBeyondRange code
  else 2048 + roundDiv (((code : Int) - 2048) * d.scale + (d.offset - c.offset) * 400) c.scale

/-- A captured code as the view draws it: rescaled and turned over by invert (R120, R121). -/
def drawnCode (d : ChanDesc) (c : ViewChannel) (code : Nat) : Int :=
  if c.invert then 4096 - rescale d c code else rescale d c code

/-- A trace column's pixels from one row to another, whichever is the lesser. -/
def columnSpan (x : Nat) (r1 r2 : Int) (colour : Nat) : List Paint := traceBox x (min r1 r2) x (max r1 r2) colour

/-- The interpolated columns from `col`, `count` of them, between column `ca` with last row `ra` and column `cb` with first row `rb`
(R125): what is painted, and the carry row after them. -/
def interpolated (ca cb : Nat) (ra rb : Int) (colour : Nat) : Nat → Nat → Int → List Paint × Int
  | 0, _, carry => ([], carry)
  | count + 1, col, carry =>
    let r := ra + roundDiv ((rb - ra) * ((col : Int) - ca)) ((cb : Int) - ca)
    let rest := interpolated ca cb ra rb colour count (col + 1) r
    (columnSpan col carry r colour ++ rest.1, rest.2)

/-- The over-range and under-range ticks of a column (R122). -/
def rangeTicks (x : Nat) (least greatest : Int) (colour : Nat) : List Paint :=
  let bar (row : Int) : List Paint := traceBox ((x : Int) - 1) row (x + 1) row colour
  (if 3647 < least ∨ 3647 < greatest then bar 2 else []) ++ (if least < 448 ∨ greatest < 448 then bar 397 else [])

/-- What an answer draws (R122 to R125): the empty columns it ends, the column's body, its ticks; and the carry row after it. -/
def columnPaints (style : DrawStyle) (d : ChanDesc) (c : ViewChannel) (t : Trace) (cb : Nat) (first last least greatest : Nat) :
    List Paint × Option Nat :=
  let row (code : Nat) : Int := rowOfCode (drawnCode d c code)
  let lo := min (row least) (row greatest)
  let hi := max (row least) (row greatest)
  let marks := rangeTicks cb (drawnCode d c least) (drawnCode d c greatest) c.colour
  match style, t.carry with
  | .dots, _ => (columnSpan cb lo hi c.colour ++ marks, none)
  | .vector, none => (columnSpan cb lo hi c.colour ++ marks, some (row last).toNat)
  | .vector, some ra =>
    let gap := interpolated (t.col - 1) cb ra (row first) c.colour (cb - t.col) t.col ra
    (gap.1 ++ columnSpan cb (min lo gap.2) (max hi gap.2) c.colour ++ marks, some (row last).toNat)

/-- The BACK buffer painted (R102). -/
def Composer.drawBack (paints : List Paint) (c : Composer) : Composer :=
  if c.front1 then { c with buf0 := c.buf0.draw paints } else { c with buf1 := c.buf1.draw paints }

/-- The BACK buffer cleared to index 0: the background layer (R107). -/
def Composer.clearBack (c : Composer) : Composer := if c.front1 then { c with buf0 := [] } else { c with buf1 := [] }

/-- The FRONT buffer, which the display scans out (R102). -/
def Composer.front (c : Composer) : FrameBuffer := if c.front1 then c.buf1 else c.buf0

/-- The colour shown at a pixel of the screen: the palette's, for the FRONT buffer's index (R101, R102). -/
def Composer.shown (c : Composer) (x y : Nat) : Option Colour := c.front.colour x y

/-- An answer to the reduction the Composer waits for is drawn, and the pass moves past its column (R119, R123). -/
def Composer.drawColumn (first last least greatest : Nat) (c : Composer) : Composer :=
  match c.snapshot, c.trace.asked, c.trace.todo with
  | some v, some cb, n :: _ =>
    match v.shown, v.channel n with
    | some (_, d), some ch =>
      match d.chans.find? fun x => x.chan == n with
      | some cd =>
        let p := columnPaints v.draw cd ch c.trace cb first last least greatest
        { c.drawBack p.1 with trace := { c.trace with col := cb + 1, carry := p.2, asked := none } }
      | none => c
    | _, _ => c
  | _, _, _ => c

/-- REDUCE data taken against an outstanding REDUCE (R95, R119). -/
def State.takeReduceData (first last least greatest : Nat) (s : State) : State :=
  match s.port.outstanding with
  | some (.reduce _, _) =>
    let s := { s with
      port := { s.port with outstanding := none }
      composer := s.composer.drawColumn first last least greatest }
    s.advanceTrace
  | some (.run _, _) | none => s

/-! ## The frame cycle (R103, R105, R106) -/

/-- Steps 3 and 4 of a frame start: the snapshot, and the drawing begun in the BACK buffer (R105, R107). -/
def Composer.beginFrame (v : View) (c : Composer) : Composer :=
  let c := c.clearBack.drawBack (graticuleLayer v.graticule)
  { c with state := .composing, snapshot := some v, failed := false
           trace := { todo := traceOrder v, col := 0, carry := none, asked := none } }

/-- A frame start (R105): the flag cleared, a HELD bank taken, the snapshot, and the drawing begun (log 22). -/
def State.frameStart (s : State) : State :=
  let s := ({ s with composer := { s.composer with recompose := false } }).takeBank
  let v := snapshotOf s.table s.run.banks
  let s := { s with composer := s.composer.beginFrame v }
  if s.composer.trace.todo.isEmpty then s else s.advanceTrace

/-- A frame starts when the Composer is IDLE with recompose-needed set (R103). -/
def State.frameStartIfDue (s : State) : State :=
  if s.composer.state = .idle ∧ s.composer.recompose then s.frameStart else s

/-- The drawing finishes (R106): the layers after the traces are drawn, the frame end request is made, and the Composer enters
WAIT_SWAP. It comes once the traces are drawn or have failed. -/
def State.frameEnd (s : State) : State :=
  match s.composer.state, s.composer.snapshot with
  | .composing, some v =>
    if s.composer.trace.todo.isEmpty then
      let s := ({ s with composer := s.composer.drawBack (upperLayers v) }).endBank
      { s with composer := { s.composer with state := .waitSwap } }
    else s
  | _, _ => s

/-- A vertical blank (R102, R103): in WAIT_SWAP the buffers exchange roles and a frame starts at once if recompose-needed is set. -/
def State.verticalBlank (s : State) : State :=
  match s.composer.state with
  | .waitSwap => ({ s with composer := { s.composer with front1 := !s.composer.front1, state := .idle } }).frameStartIfDue
  | .idle | .composing => s

/-- A period of the backlight output begins (R115). -/
def State.backlightPeriod (s : State) : State :=
  { s with composer := { s.composer with backlightOn := 40 * s.table.display.backlight } }

end Sys2Proof.Machine
end

