-- ==== Sys2Proof/Machine/Images.lean ====
section
/-! DEFINITION. Setup images: building one, classifying a sector, and the drafts of a recall and of the factory defaults
(09_saved_setups R141, R142, R147, R151, 12_formats R176, 02_settings_and_their_ranges R42, R43). -/

namespace Sys2Proof.Machine

/-! ## Building an image (R141, R147, R176) -/

/-- The tag of an image (12_formats). -/
def imageTag : List Byte := [0x50, 0x44, 0x34, 0x53]

/-- A list of bytes filled with FFh to a length. -/
def padFF (n : Nat) (l : List Byte) : List Byte := l ++ List.replicate (n - l.length) 0xFF

/-- The category a class belongs to is in a set (R141). -/
def Categories.has (c : Categories) : Cls → Bool
  | .channel => c.channels
  | .timebase => c.timebase
  | .trigger => c.trigger
  | .acquire => c.acquire
  | .display => c.display
  | .cursor | .measurement | .annotation => c.dynamic
  | .panel | .menu | .system | .keybind | .lampbind => false

/-- The empty category set. -/
def Categories.isEmpty (c : Categories) : Bool :=
  !(c.channels || c.timebase || c.trigger || c.acquire || c.display || c.dynamic)

/-- Every category. -/
def Categories.all : Categories :=
  { channels := true, timebase := true, trigger := true, acquire := true, display := true, dynamic := true }

/-- A record entry: the record key and the values of its saved fields, with no identifiers (12_formats). -/
def entryBytes (t : Table) (k : RecKey) : List Byte :=
  keyBytes k ++ (savedItems t k).flatMap fun p => encodeValue t p.2 ⟨k, p.1⟩

/-- The body of an image: an entry for each record of the categories, in class order and then instance order (R141). -/
def imageBody (t : Table) (cats : Categories) : List Byte := (t.keys.filter fun k => cats.has k.cls).flatMap (entryBytes t)

/-- Bytes 4 to 59 of the header (12_formats, R176). -/
def imageHeader (build : Nat) (bodyLength : Nat) (cats : Categories) (label : Option Text) : List Byte :=
  [0x01, byte build] ++ bytesBE 2 bodyLength ++ [cats.byte, byte (label.getD []).length]
    ++ padFF 16 ((label.getD []).map fun c => byte c.toNat) ++ List.replicate 34 0xFF

/-- The image of a STORE (R147): header, CRC-32 and body, then FFh to the end of the sector. -/
def buildImage (t : Table) (cats : Categories) (label : Option Text) : List Byte :=
  let body := imageBody t cats
  let header := imageHeader t.channels.length body.length cats label
  padFF sectorBytes (imageTag ++ header ++ bytesBE 4 (crc32 (header ++ body)).toNat ++ body)

/-! ## Reading an image (R142, R176) -/

/-- A record entry as read. -/
abbrev Entry := RecKey × Items

/-- The values of an entry's fields, in field order; none where one is not of its field's sort (R142 test 6). A text whose length
byte is above 32 and not FFh counts as none, as in a link body (R142 and R151 do not say; DESIGN CHOICE, log 50). CH3 and CH4 are
members of the set of channel names in every image, also in one whose header says 2 build channels (DESIGN CHOICE, log 53). -/
def readFields (t : Table) : List Field → List Byte → Option (Items × List Byte)
  | [], l => some ([], l)
  | f :: fs, l =>
    match readValue t 1 f.sort none l with
    | .good v rest => (readFields t fs rest).map fun p => ((f, v) :: p.1, p.2)
    | .bad _ | .stuck | .unknownClass | .unknownField | .short => none

/-- The entries of a body, read to its end; `fuel` bounds their number. -/
def readEntries (t : Table) : Nat → List Byte → Option (List Entry)
  | _, [] => some []
  | 0, _ :: _ => none
  | fuel + 1, c :: l =>
    match Cls.ofNumber c.toNat, l with
    | some cls, inst :: rest =>
      if (savedFields cls).isEmpty || !cls.instances.contains inst.toNat then none
      else
        match readFields t (savedFields cls) rest with
        | some (items, rest) => (readEntries t fuel rest).map fun es => ((⟨cls, inst.toNat⟩, items) :: es)
        | none => none
    | _, _ => none

/-- A value that a recall can bring into range (R142 test 6). -/
def storedValueOk (items : Items) (f : Field) (v : Value) : Bool :=
  match f, v with
  | .chProbe, .num n => n == 1 || n == 10 || n == 100
  | .tbLength, .num n => lengthChoices.contains n
  | .trLevel, .absent => items.value .trSource == some (enumValue TrigSource.positions .line)
  | .anText, .text s => !s.isEmpty && s.all printable
  | .anText, _ => false
  | _, .text s => s.all printable
  | _, _ => true

/-- The fixed entries that a category set calls for, for the storer's build (R141). -/
def calledFor (cats : Categories) (build : Nat) : List RecKey :=
  (if cats.channels then (List.range build).map fun i => ⟨.channel, i + 1⟩ else [])
    ++ (if cats.timebase then [timebaseKey] else []) ++ (if cats.trigger then [triggerKey] else [])
    ++ (if cats.acquire then [acquireKey] else []) ++ (if cats.display then [displayKey] else [])

/-- A body is well formed (R142 test 6): one entry per record, exactly the fixed entries its categories call for, dynamic entries
only under DYNAMIC and at most 16 of them, every value one that a recall can bring into range (log 23). -/
def bodyOk (cats : Categories) (build : Nat) (es : List Entry) : Bool :=
  let keys := es.map (·.1)
  let fixed := keys.filter fun k => !k.cls.dynamic
  let dyn := keys.filter fun k => k.cls.dynamic
  decide keys.Nodup && (calledFor cats build).all fixed.contains && fixed.all (calledFor cats build).contains
    && (cats.dynamic || dyn.isEmpty) && decide (dyn.length ≤ 16)
    && es.all fun e => e.2.all fun p => storedValueOk e.2 p.1 p.2

/-- What a VALID image holds. -/
structure Image where
  label   : Option Text
  cats    : Categories
  build   : Nat
  entries : List Entry
  deriving DecidableEq, Repr

/-- The label of a header; the outer `none` where it makes the header fail (R176). -/
def readLabel (n : Nat) (chars : List Byte) : Option (Option Text) :=
  let label : Text := (chars.take n).map fun c => Char.ofNat c.toNat
  if 16 < n then none else if n = 0 then some none else if label.all printable then some (some label) else none

/-- Test 6 of R142 on a header and body that passed the tests before it. -/
def readImage (t : Table) (sector : List Byte) (bodyLength : Nat) : Option Image :=
  match Categories.ofByte (sector.getD 8 0), readLabel (sector.getD 9 0).toNat (sector.drop 10) with
  | some cats, some label =>
    let build := (sector.getD 5 0).toNat
    let body := (sector.drop 64).take bodyLength
    if (build ≠ 2 ∧ build ≠ 4) ∨ cats.isEmpty then none
    else
      match readEntries t (body.length + 1) body with
      | some es => if bodyOk cats build es then some { label := label, cats := cats, build := build, entries := es } else none
      | none => none
  | _, _ => none

/-- What the tests of R142 find. -/
inductive Classified where
  | empty | damaged | foreign
  | valid (i : Image)
  deriving DecidableEq, Repr

/-- A sector classified by the tests of R142, in order. -/
def classify (t : Table) (sector : List Byte) : Classified :=
  let tag := sector.take 4
  let bodyLength := natBE ((sector.drop 6).take 2)
  let body := (sector.drop 64).take bodyLength
  if tag = List.replicate 4 0xFF then .empty
  else if tag ≠ imageTag then .damaged
  else if 4032 < bodyLength then .damaged
  else if (crc32 ((sector.drop 4).take 56 ++ body)).toNat ≠ natBE ((sector.drop 60).take 4) then .damaged
  else if sector.getD 4 0 ≠ 0x01 then .foreign
  else match readImage t sector bodyLength with
    | some i => .valid i
    | none => .damaged

/-- The directory summary of a classified sector (R143). -/
def Classified.entry : Classified → SlotEntry
  | .empty => .empty
  | .damaged => .damaged
  | .foreign => .foreign
  | .valid i => .valid i.label i.cats i.build

/-! ## Drafts of recalls and defaults (R43, R151) -/

/-- A channel name that the build lacks becomes CH1 (R21, R151). -/
def rebuiltValue (t : Table) (f : Field) (v : Value) : Value :=
  match f, v with
  | .trSource, .enum p | .cuSource, .enum p | .msSource, .enum p => if memberOk t f p then v else .enum 0
  | _, _ => v

/-- The entries of an image in class order and then instance order, for this build. -/
def orderedEntries (t : Table) (es : List Entry) : List Entry :=
  (es.foldl (fun m e => setKey e.1 e.2 m) []).map fun e => (e.1, e.2.map fun p => (p.1, rebuiltValue t p.1 p.2))

/-- A record's entry applied with its dependents (R24, R151). -/
def applyEntry (t : Table) (e : Entry) : Table := (applyRecord t e.1 e.2).1

/-- Every dynamic record retired, and the focus on one of them cleared (R10). -/
def retireAll (t : Table) : Table := t.dynamicKeys.foldl (fun t k => (t.removeRecord k).clearFocus k) t

/-- The draft that applies an image's categories selected by a mask (R151). -/
def recallDraft (t : Table) (i : Image) (mask : Categories) : Draft :=
  let taken := (orderedEntries t i.entries).filter fun e => mask.has e.1.cls
  let fixed := taken.filter fun e => !e.1.cls.dynamic && t.has e.1
  let dyn := taken.filter fun e => e.1.cls.dynamic
  let t' := fixed.foldl applyEntry t
  if mask.dynamic && i.cats.dynamic then
    { table := dyn.foldl (fun t e => applyEntry (t.addRecord e.1) e) (retireAll t')
      created := dyn.map (·.1), retired := t.dynamicKeys }
  else Draft.of t'

/-- The draft that applies the factory defaults at once (R43). -/
def factoryDraft (t : Table) : Draft :=
  { table := retireAll ((factoryEntries t.channels.length).foldl applyEntry t), created := [], retired := t.dynamicKeys }

end Sys2Proof.Machine
end

