-- ==== Sys2Proof/Machine/Storage.lean ====
section
/-! DEFINITION. The Storage Engine (09_saved_setups) and the DEFAULTS action (02_settings_and_their_ranges R43). -/

namespace Sys2Proof.Machine

/-- The engine's part of the state changed. -/
def State.onEngine (f : Engine → Engine) (s : State) : State := { s with engine := f s.engine }

/-- The flash address of a slot's sector (12_formats). -/
def slotAddress (slot : Nat) : Nat := sectorBytes * slot

/-- The flash address of a page of a slot. -/
def pageAddress (slot page : Nat) : Nat := slotAddress slot + 256 * page

/-- An operation's first flash operation: issued, or, while the flash may still be busy after a TIMEOUT, held back until the flash
reports ready (R149). `limit` is the timeout of the phase, in microseconds; `none` for a READ, which has none once it is issued. -/
def State.firstFlashOp (op : FlashOp) (limit : Option Nat) (s : State) : State :=
  if s.engine.flashBusy then
    (s.onEngine fun e => { e with waitReady := true, deadline := some (after s.clock.now 2000000) }).issueFlash .status
  else
    (s.onEngine fun e => { e with waitReady := false, deadline := limit.map (after s.clock.now) }).issueFlash op

/-- The first flash operation of the operation in hand. -/
def State.startFlash (s : State) : State :=
  match s.engine.op with
  | none => s
  | some o =>
    match o.op with
    | .store | .erase => s.firstFlashOp (.sectorErase (slotAddress o.slot)) (some 2000000)
    | .recall | .defaults | .powerOn => s.firstFlashOp (.read (slotAddress o.slot)) none

/-- An operation begins (R144): the engine's state, the operation in hand, its first phase and its first flash operation. -/
def State.beginOp (st : StoreState) (o : OpInHand) (phase : Option Phase) (s : State) : State :=
  ((s.onEngine fun e => { e with op := some o, phase := phase, page := none }).setStoreState st).startFlash

/-- A slot's directory entry set (R143). -/
def State.setSlot (slot : Nat) (e : SlotEntry) : State → State :=
  State.onEngine fun g => { g with directory := g.directory.set slot e }

/-- The last-result record replaced (R145): unread, once true, stays true until STORAGE STATUS reads it. -/
def Engine.record (op : Operation) (slot : Nat) (o : OpOutcome) (unread : Bool) (e : Engine) : Engine :=
  { e with result := { op := some op, slot := some slot, outcome := o, unread := e.result.unread || unread } }

/-- The operation in hand ends (R145): its result is recorded and the engine returns to IDLE. -/
def State.endOp (o : OpInHand) (r : OpOutcome) (s : State) : State :=
  let unread := decide (o.op ≠ .powerOn) || decide (r ≠ .done)
  (s.onEngine fun e =>
    { e.record o.op o.slot r unread with op := none, phase := none, page := none, waitReady := false, deadline := none }).setStoreState .idle

/-- A STORE or ERASE ends FAILED (R149, R152): the slot's entry, the report, the result. -/
def State.failWrite (o : OpInHand) (r : Reason) (entry : SlotEntry) (s : State) : State :=
  ((s.setSlot o.slot entry).report .storeFail (some (.storeFail o.slot r))).endOp o (.failed r)

/-- A STORE or ERASE ends FAILED after an error the flash reported: the engine reads the sector and classifies it (R149, R152). -/
def State.failRead (o : OpInHand) (r : Reason) (sector : List Byte) (s : State) : State :=
  (s.issueFlash (.read (slotAddress o.slot))).failWrite o r (classify s.table sector).entry

/-- A STORE or ERASE ends FAILED with TIMEOUT at its deadline: the slot is DAMAGED without reading it, and the flash may still be
busy (R149, R152). -/
def State.failTimeout (o : OpInHand) (s : State) : State :=
  ((s.arriveOpt s.engine.deadline).onEngine fun e => { e with flashBusy := true }).failWrite o .timeout .damaged

/-! ## STORE (R148, R149) -/

/-- A page's 256 bytes. -/
def pageData (image : List Byte) (page : Nat) : List Byte := (image.drop (256 * page)).take 256

/-- A page is started (R148). -/
def State.programPage (slot page : Nat) (s : State) : State :=
  (s.onEngine fun e => { e with phase := some .program, page := some page
                                deadline := some (after s.clock.now 10000) }).issueFlash
    (.pageProgram (pageAddress slot page) (pageData s.engine.image page))

/-- The operation in hand, when it is `op` in `phase` and its flash operation has been issued. -/
def Engine.inPhase (e : Engine) (op : Operation) (phase : Option Phase) : Option OpInHand :=
  match e.op with
  | some o => if o.op = op ∧ e.phase = phase ∧ !e.waitReady then some o else none
  | none => none

/-- The flash status after a STORE's erase (R148); bit 0 is busy and bit 5 an erase error. -/
def State.storeErased (status : Byte) (sector : List Byte) (s : State) : State :=
  match s.engine.inPhase .store (some .erase) with
  | some o =>
    if status.getLsbD 0 then s
    else if status.getLsbD 5 then s.failRead o .eraseFail sector
    else s.programPage o.slot 1
  | none => s

/-- A STORE's erase, or its wait for the flash, is not finished in 2,000 ms (R148, R149). -/
def State.storeEraseTimeout (s : State) : State :=
  match s.engine.op with
  | some o => if o.op = .store ∧ s.engine.phase = some .erase then s.failTimeout o else s
  | none => s

/-- The flash status after a page program (R148): pages go 1 to 15 and then 0; bit 6 is a program error. -/
def State.pageProgrammed (status : Byte) (sector : List Byte) (s : State) : State :=
  match s.engine.inPhase .store (some .program), s.engine.page with
  | some o, some p =>
    if status.getLsbD 0 then s
    else if status.getLsbD 6 then s.failRead o .programFail sector
    else if p = 0 then
      (s.onEngine fun e => { e with phase := some .verify, page := none, deadline := none }).issueFlash
        (.read (slotAddress o.slot))
    else if p < 15 then s.programPage o.slot (p + 1)
    else s.programPage o.slot 0
  | _, _ => s

/-- A page is not finished in 10 ms (R148). -/
def State.pageTimeout (s : State) : State :=
  match s.engine.inPhase .store (some .program) with
  | some o => s.failTimeout o
  | none => s

/-- The whole sector read back (R149). -/
def State.verifySector (sector : List Byte) (s : State) : State :=
  match s.engine.inPhase .store (some .verify) with
  | some o =>
    match classify s.table sector with
    | .valid i =>
      if sector = s.engine.image then (s.setSlot o.slot (Classified.valid i).entry).endOp o .done
      else s.failWrite o .verifyFail (Classified.valid i).entry
    | c => s.failWrite o .verifyFail c.entry
  | none => s

/-! ## ERASE (R152) -/

/-- The flash status after an ERASE's erase (R152). -/
def State.slotErased (status : Byte) (sector : List Byte) (s : State) : State :=
  match s.engine.inPhase .erase none with
  | some o =>
    if status.getLsbD 0 then s
    else if status.getLsbD 5 then s.failRead o .eraseFail sector
    else (s.setSlot o.slot .empty).endOp o .done
  | none => s

/-- The ERASE, or its wait for the flash, is not finished in 2,000 ms (R149, R152). -/
def State.slotEraseTimeout (s : State) : State :=
  match s.engine.op with
  | some o => if o.op = .erase then s.failTimeout o else s
  | none => s

/-! ## RECALL and DEFAULTS (R43, R150, R151) -/

/-- The factory defaults applied in one event of owner defaults (R43). -/
def State.factoryDefaults (s : State) : State := s.commit .defaults (factoryDraft s.table)

/-- An operation that recalls a slot. -/
def Operation.recalls : Operation → Bool
  | .recall | .defaults | .powerOn => true
  | .store | .erase => false

/-- After a DEFAULTS recall that failed the factory defaults are applied (R43, R151). -/
def State.defaultsInstead (o : OpInHand) (s : State) : State :=
  if o.op = .defaults then s.factoryDefaults else s

/-- The slot's sector has been read for a recall (R150). -/
def State.recallSector (sector : List Byte) (s : State) : State :=
  match s.engine.op with
  | some o =>
    if o.op.recalls ∧ s.engine.phase = some .read ∧ !s.engine.waitReady then
      let s := s.onEngine fun e => { e with image := sector, deadline := none }
      match classify s.table sector with
      | .valid _ => s.onEngine fun e => { e with phase := some .apply }
      | _ =>
        (((s.setSlot o.slot .damaged).report .imageDamaged (some (.slot o.slot))).endOp o (.failed .damaged)).defaultsInstead o
    else s
  | none => s

/-- The flash is not ready in 2,000 ms before the READ (R150): the entry is left as it was. -/
def State.recallTimeout (s : State) : State :=
  match s.engine.op with
  | some o =>
    if o.op.recalls ∧ s.engine.phase = some .read ∧ s.engine.waitReady then
      (((s.arriveOpt s.engine.deadline).report .storeFail (some (.storeFail o.slot .timeout))).endOp o
        (.failed .timeout)).defaultsInstead o
    else s
  | none => s

/-- The owner of a recall's event (R151). -/
def Operation.owner : Operation → Owner
  | .defaults => .defaults
  | .store | .recall | .erase | .powerOn => .recall

/-- The table takes the recall's event, and the recall ends DONE (R151). -/
def State.applyImage (s : State) : State :=
  match s.engine.op with
  | some o =>
    if o.op.recalls ∧ s.engine.phase = some .apply then
      match classify s.table s.engine.image with
      | .valid i => (s.commit o.op.owner (recallDraft s.table i o.mask)).endOp o .done
      | _ => s
    else s
  | none => s

/-- A slot's directory state is VALID. -/
def SlotEntry.isValid : SlotEntry → Bool
  | .valid _ _ _ => true
  | .empty | .damaged | .foreign => false

/-- The directory holds a slot VALID. -/
def Engine.slotValid (e : Engine) (slot : Nat) : Bool := (e.directory[slot]?).any SlotEntry.isValid

/-- Factory defaults applied at once, with the answer (R43): DONE when the event altered a stamped field or retired a record. -/
def State.defaultsNow (s : State) : State × ReplyCode :=
  let d := factoryDraft s.table
  (s.factoryDefaults, if (alteredRefs s.table d).isEmpty && d.retired.isEmpty then .doneNoEffect else .done)

/-- DEFAULTS by the engine's state and slot 31's directory entry (R43). -/
def State.takeDefaults (s : State) : State × ReplyCode :=
  match s.table.system.storeState with
  | .scanning => (s, .busy)
  | .absent => s.defaultsNow
  | .idle =>
    if s.engine.slotValid 31 then
      (s.beginOp .recalling { op := .defaults, slot := 31, mask := .all } (some .read), .started)
    else s.defaultsNow
  | .storing | .recalling | .erasing => if s.engine.slotValid 31 then (s, .busy) else s.defaultsNow

/-! ## Admission of link requests (R146, R153) -/

/-- The checks 1 and 2 of R146: no flash, or still scanning. -/
def State.storeAbsent (s : State) : Option ReplyCode :=
  match s.table.system.storeState with
  | .absent => some .noStore
  | .scanning => some .busy
  | .idle | .storing | .recalling | .erasing => none

/-- The engine has an operation in hand (R146 check 5). -/
def State.storeBusy (s : State) : Bool :=
  match s.table.system.storeState with
  | .storing | .recalling | .erasing => true
  | .absent | .scanning | .idle => false

/-- STORE's admission, checks 1 to 6 of R146; `none` when it is admitted. `values` says that check 4 passes. -/
def State.writeRefused (slot : Nat) (values : Bool) (s : State) : Option ReplyCode :=
  match s.storeAbsent with
  | some c => some c
  | none =>
    if 31 < slot then some .outOfRange
    else if !values then some .badValue
    else if s.storeBusy then some .busy
    else if slot = 31 ∧ s.engine.protect then some .protectedSlot
    else none

/-- An accepted STORE (R147): the image is built from the table as it stands, and the ERASE phase begins. -/
def State.beginStore (slot : Nat) (label : Option Text) (cats : Categories) (s : State) : State :=
  (s.onEngine fun e => { e with image := buildImage s.table cats label }).beginOp .storing
    { op := .store, slot := slot, mask := cats } (some .erase)

/-- RECALL's admission (R146). -/
def State.recallRefused (slot : Nat) (values : Bool) (s : State) : Option ReplyCode :=
  match s.storeAbsent with
  | some c => some c
  | none =>
    if 31 < slot then some .outOfRange
    else if !values then some .badValue
    else if s.storeBusy then some .busy
    else match s.engine.directory.getD slot .empty with
      | .empty => some .empty
      | .damaged => some .damaged
      | .foreign => some .foreign
      | .valid _ _ _ => none

/-- PROTECT's refusals: checks 1 and 2, and a STORE or ERASE of slot 31 in hand (R146, R153). -/
def State.protectRefused (s : State) : Option ReplyCode :=
  match s.storeAbsent with
  | some c => some c
  | none =>
    match s.engine.op with
    | some o => if o.slot = 31 ∧ (o.op = .store ∨ o.op = .erase) then some .busy else none
    | none => none

/-! ## Detection and start-up (R139, R154, R155) -/

/-- The engine is detecting the flash. -/
def State.detecting (s : State) : Bool :=
  s.table.system.storeState == .scanning && !s.table.system.storePresent

/-- The identification reads as no flash (R139). -/
def noFlash (id0 id1 id2 : Byte) : Bool :=
  (id0 == 0 && id1 == 0 && id2 == 0) || (id0 == 0xFF && id1 == 0xFF && id2 == 0xFF)

/-- The flash has reported ready and its identification has been read (R139): ABSENT, or present and about to be scanned. -/
def State.detectFlash (id0 id1 id2 : Byte) (s : State) : State :=
  if s.detecting then
    let s := (s.onEngine fun e => { e with deadline := none }).issueFlash .identification
    if noFlash id0 id1 id2 then s.setStoreState .absent
    else (List.range 32).foldl (fun s slot => s.issueFlash (.read (slotAddress slot))) (s.setStorePresent true)
  else s

/-- The flash does not report ready in 2,000 ms at detection: it is taken as absent (R139). -/
def State.detectTimeout (s : State) : State :=
  if s.detecting then
    ((s.arriveOpt s.engine.deadline).onEngine fun e => { e with deadline := none }).setStoreState .absent
  else s

/-- A start-up result that fails (R155). -/
def State.startUpFails (r : Reason) (s : State) : State :=
  s.endOp { op := .powerOn, slot := 0, mask := .all } (.failed r)

/-- All 32 slots have been read (R154): the directory is set, and slot 0 decides the start-up recall (R155). -/
def State.scanSlots (sectors : List (List Byte)) (s : State) : State :=
  if s.table.system.storeState = .scanning ∧ s.table.system.storePresent then
    let s := s.onEngine fun e => { e with directory := sectors.map fun x => (classify s.table x).entry }
    match s.engine.directory.getD 0 .empty with
    | .valid _ _ _ => s.beginOp .recalling { op := .powerOn, slot := 0, mask := .all } (some .read)
    | .damaged => (s.report .imageDamaged (some (.slot 0))).startUpFails .damaged
    | .foreign => s.startUpFails .foreign
    | .empty => s.setStoreState .idle
  else s

/-- The flash reports ready while the operation in hand waits for it (R149): its first flash operation is issued. -/
def State.flashReady (s : State) : State :=
  if s.engine.waitReady then (s.onEngine fun e => { e with flashBusy := false, waitReady := false }).startFlash else s

end Sys2Proof.Machine
end

