-- ==== Sys2Proof/Machine/Link.lean ====
section
/-! DEFINITION. The Setting Link: periods, taking and answering a request, and the blocks' answers to each request kind
(10_the_setting_link, 12_formats R175, 11_faults R171 to R173). -/

namespace Sys2Proof.Machine

/-! ## Taking and answering (R158 to R160) -/

/-- The link's part of the state changed. -/
def State.onLink (f : Link → Link) (s : State) : State := { s with link := f s.link }

/-- A response formed in the buffer; the request in hand ends (R159, R160). -/
def State.respond (kind : Byte) (r : Reply) : State → State :=
  State.onLink fun l => { l with inHand := none, response := responseFrame kind r }

/-- A sub-action of INTENT or FAULTS outside its set, or one that is not there (R158, R175). -/
def badSubAction (r : Req) (body : List Byte) : Bool :=
  match r, body with
  | .intent, b :: _ => decide (1 < b.toNat)
  | .faults, b :: _ => decide (2 < b.toNat)
  | .intent, [] | .faults, [] => true
  | _, _ => false

/-- A frame is taken (R158, R159): the buffer is emptied, and the frame is answered FRAME_ERROR, UNKNOWN_REQUEST or, for a
sub-action outside its set, BAD_VALUE, or becomes the request in hand. -/
def State.takeFrame (bytes : List Byte) (s : State) : State :=
  let s := s.onLink fun l => { l with response := [] }
  match checkFrame bytes with
  | .inl cause => (s.respond (bytes.getD 1 0) (bare .frameError)).report .linkFrame (some (.frame cause))
  | .inr f =>
    match Req.ofByte f.kind with
    | none => s.respond f.kind (bare .unknownRequest)
    | some r =>
      if badSubAction r f.body then s.respond f.kind (bare .badValue)
      else s.onLink fun l => { l with inHand := some f }

/-- The held request is taken once no request is in hand (R159). -/
def State.takeHeld (s : State) : State :=
  match s.link.inHand, s.link.held with
  | none, some bytes => (s.onLink fun l => { l with held := none }).takeFrame bytes
  | _, _ => s

/-- A block has answered (R159, R160): the response is formed, the request in hand ends, and a held request is taken in the same step. -/
def State.answer (kind : Byte) (r : Reply) (s : State) : State := (s.respond kind r).takeHeld

/-- The request in hand, when it is of a kind, answered by its block. -/
def State.answerRequest (r : Req) (block : List Byte → State → State × Reply) (s : State) : State :=
  match s.link.inHand with
  | some f =>
    if Req.ofByte f.kind = some r then
      let p := block f.body s
      p.1.answer f.kind p.2
    else s
  | none => s

/-- The request in hand, when it is of a kind and its sub-action is `sub` (INTENT, FAULTS), answered by its block. -/
def State.answerSub (r : Req) (sub : Byte) (block : List Byte → State → State × Reply) (s : State) : State :=
  match s.link.inHand with
  | some f =>
    if Req.ofByte f.kind = some r ∧ f.body.head? = some sub then
      let p := block f.body.tail s
      p.1.answer f.kind p.2
    else s
  | none => s

/-- A write period ends (R157, R159). -/
def State.writePeriod (bytes : List Byte) (s : State) : State :=
  let s := { s with out := { s.out with miso := List.replicate bytes.length 0 } }
  if bytes.isEmpty then s
  else match s.link.inHand, s.link.held with
    | none, _ => s.takeFrame bytes
    | some _, none => s.onLink fun l => { l with held := some bytes }
    | some _, some _ => s.report .linkFrame (some (.frame .discarded))

/-- A read period of `n` whole bytes (R160): the response from its start byte, then 00h; the not-ready answer when the buffer is empty. -/
def State.readPeriod (n : Nat) (s : State) : State :=
  { s with out := { s.out with miso := (s.link.response ++ List.replicate n 0).take n } }

/-! ## Records (R1) -/

/-- The checks of R1 on a record key as a request names it. -/
def checkRecord (t : Table) (cls inst : Byte) : ReplyCode ⊕ RecKey :=
  match Cls.ofNumber cls.toNat with
  | none => .inl .noRecord
  | some c =>
    if !c.instances.contains inst.toNat then .inl .noRecord
    else if t.has ⟨c, inst.toNat⟩ then .inr ⟨c, inst.toNat⟩
    else if c = .channel then .inl .notBuilt
    else .inl .noRecord

/-- A body that cannot be read as its kind's body: BAD_VALUE, with position 0 for the kinds that carry one (R158, R161, R175). -/
def unreadable : Reply := atField .badValue 0

/-! ## IDENTIFY and LOOKUP (R162) -/

/-- IDENTIFY. -/
def identifyRequest (body : List Byte) (s : State) : State × Reply :=
  if body.isEmpty then
    (s, { code := .done, body := [0x4B, 0x56, 0x04, 0x28, 0x01, byte s.table.system.buildChannels,
                                  if s.table.system.storePresent then 1 else 0] })
  else (s, bare .badValue)

/-- One field of a LOOKUP's answer: its identifier and value. -/
def fieldAnswer (t : Table) (k : RecKey) (f : Field) : List Byte :=
  byte f.ident :: encodeValue t ((t.get ⟨k, f⟩).getD .absent) ⟨k, f⟩

/-- LOOKUP's answer for a record and the identifiers it names; none of them asks for the whole record. A name given twice is refused at
its second place (log 49). -/
def lookupAnswer (t : Table) (k : RecKey) (ids : List Byte) : Reply :=
  let fields := ids.filterMap fun b => k.cls.field b.toNat
  match repeatedPos [] fields 1 with
  | some p => atField .badValue p
  | none =>
    let shown := if ids.isEmpty then k.cls.fields else fields
    { code := .done, body := stampBytes (t.stampOf k) ++ shown.flatMap (fieldAnswer t k) }

/-- LOOKUP (R162, R175). -/
def lookupRequest (body : List Byte) (s : State) : State × Reply :=
  let t := s.table
  match body with
  | [] => (s, unreadable)
  | cls :: rest =>
    match Cls.ofNumber cls.toNat with
    | none => (s, bare .noRecord)
    | some c =>
      match rest with
      | inst :: n :: ids =>
        let unknown := firstPos (fun (b : Byte) => (c.field b.toNat).isNone) (ids.take n.toNat)
        if unknown.isNone && decide (ids.length ≠ n.toNat) then (s, unreadable)
        else match checkRecord t cls inst, unknown with
          | .inl code, _ => (s, bare code)
          | .inr _, some p => (s, atField .unknownField p)
          | .inr k, none => (s, lookupAnswer t k ids)
      | _ => (s, unreadable)

/-! ## AMEND (R7, R163) -/

/-- The body of an AMEND as read (R175): the record key's bytes, the expected stamp, the items and how their reading ended. -/
structure AmendBody where
  cls   : Byte
  inst  : Byte
  stamp : Option Stamp
  items : ReadItems
  stop  : ItemsEnd
  deriving DecidableEq, Repr

/-- An expected stamp: 00h, or 01h and 6 bytes. -/
def readStamp (l : List Byte) : Option (Option Stamp × List Byte) :=
  match l with
  | [] => none
  | b :: rest =>
    if b = 0 then some (none, rest)
    else if b = 1 then (takeBytes 6 rest).map fun p => (some (BitVec.ofNat 48 (natBE p.1)), p.2)
    else none

/-- The items' list reached its end with no byte left, or stopped where the size of what follows is unknown. -/
def ItemsEnd.readable : ItemsEnd → Bool
  | .whole rest => rest.isEmpty
  | .unknown _ | .unknownClass | .stuck => true
  | .short => false

/-- The body of an AMEND read item by item; the left is the answer to one that cannot be read, or of an unknown class (R175). -/
def readAmend (t : Table) (body : List Byte) : Reply ⊕ AmendBody :=
  match body with
  | [] => .inl unreadable
  | cls :: rest =>
    match Cls.ofNumber cls.toNat with
    | none => .inl (bare .noRecord)
    | some c =>
      match rest with
      | inst :: rest =>
        match readStamp rest with
        | some (stamp, count :: rest) =>
          let r := readRequestItems t c (some ⟨c, inst.toNat⟩) count.toNat rest
          if r.2.readable then .inr { cls := cls, inst := inst, stamp := stamp, items := r.1, stop := r.2 }
          else .inl unreadable
        | _ => .inl unreadable
      | [] => .inl unreadable

/-- The refusal of a list of items by the checks of fields and values (R7 steps 3 to 5). An unknown class number or field identifier
where the reading stopped is refused at step 3, with the field names (R175; log 14). -/
def itemsRefused (t : Table) (k : RecKey) (items : ReadItems) (stop : ItemsEnd) : Option Reply :=
  match stop with
  | .unknown p => some (atField .unknownField p)
  | .unknownClass => some (bare .noRecord)
  | .whole _ | .stuck | .short =>
    match firstPos (fun (p : Field × Option Value) => readOnly p.1) items with
    | some p => some (atField .readOnly p)
    | none => (badValuePos t k items).map (atField .badValue)

/-- The items of a request whose values were all read. -/
def ReadItems.values (items : ReadItems) : Items := items.filterMap fun p => p.2.map fun v => (p.1, v)

/-- A field with its outcome. -/
def outcomeBytes (f : Field) (o : FieldOutcome) : List Byte := [byte f.ident, positionByte FieldOutcome.positions o]

/-- The list of requested fields with their outcomes, in request order. -/
def requestedBytes (t0 t1 : Table) (k : RecKey) (flags : List (Field × FieldOutcome)) (fields : List Field) : List Byte :=
  byte fields.length :: fields.flatMap fun f => outcomeBytes f (outcomeOf t0 t1 k flags f)

/-- The list of dependents, each with outcome CLAMPED (R6). -/
def dependentBytes (deps : List Ref) : List Byte :=
  byte deps.length :: deps.flatMap fun r => keyBytes r.key ++ outcomeBytes r.field .clamped

/-- The answer to an event on one record (R6, R163, R164): the record's stamp after it, the requested fields and the dependents. -/
def eventReply (t0 t1 : Table) (k : RecKey) (flags : List (Field × FieldOutcome)) (fields : List Field) (stamp : Stamp) : Reply :=
  let deps := dependents t0 (Draft.of t1) k fields
  let none' := fields.all (fun f => outcomeOf t0 t1 k flags f == .unchanged) && deps.isEmpty
  { code := if none' then .doneNoEffect else .done
    body := stampBytes stamp ++ requestedBytes t0 t1 k flags fields ++ dependentBytes deps }

/-- An AMEND that passes its checks, applied as one event of owner link (R7). -/
def amendRecord (k : RecKey) (items : Items) (s : State) : State × Reply :=
  let a := applyRecord s.table k items
  let s' := s.commit .link (Draft.of a.1)
  (s', eventReply s.table a.1 k a.2 (items.map (·.1)) (s'.table.stampOf k))

/-- AMEND (R7, R163): the record, the expected stamp, field names, writable fields, values; then one event of owner link. -/
def amendRequest (body : List Byte) (s : State) : State × Reply :=
  match readAmend s.table body with
  | .inl r => (s, r)
  | .inr b =>
    match checkRecord s.table b.cls b.inst with
    | .inl code => (s, bare code)
    | .inr k =>
      let held := s.table.stampOf k
      if b.stamp.any (fun x => x != held) then (s, { code := .stale, body := stampBytes held })
      else match itemsRefused s.table k b.items b.stop with
        | some r => (s, r)
        | none => amendRecord k b.items.values s

/-! ## CREATE and RETIRE (R9, R10, R163) -/

/-- The caps of the dynamic classes (R9). -/
def Cls.cap : Cls → Nat
  | .cursor => 4
  | .measurement | .annotation => 8
  | .channel | .timebase | .trigger | .acquire | .display | .panel | .menu | .system | .keybind | .lampbind => 0

/-- The lowest instance of a class that is not in use (R9). -/
def freeInstance (t : Table) (c : Cls) : Option Nat := c.instances.find? fun i => !t.has ⟨c, i⟩

/-- A CREATE that passes its checks, as one event of owner link (R9). -/
def createRecord (k : RecKey) (items : Items) (s : State) : State × Reply :=
  let t1 := s.table.addRecord k
  let a := applyRecord t1 k items
  let s' := s.commit .link { table := a.1, created := [k], retired := [] }
  (s', { code := .done
         body := byte k.inst :: (stampBytes (s'.table.stampOf k) ++ requestedBytes t1 a.1 k a.2 (items.map (·.1))) })

/-- The room for a new record of a dynamic class: CLASS_FULL, POOL_FULL or its instance (R9). -/
def roomFor (t : Table) (c : Cls) : ReplyCode ⊕ Nat :=
  if c.cap ≤ (t.keysOf c).length then .inl .classFull
  else if 16 ≤ t.dynamicKeys.length then .inl .poolFull
  else match freeInstance t c with
    | some i => .inr i
    | none => .inl .classFull

/-- CREATE (R9, R163). -/
def createRequest (body : List Byte) (s : State) : State × Reply :=
  match body with
  | [] => (s, unreadable)
  | cls :: rest =>
    match Cls.ofNumber cls.toNat with
    | none => (s, bare .noRecord)
    | some c =>
      match rest with
      | [] => (s, unreadable)
      | count :: rest =>
        let r := readRequestItems s.table c none count.toNat rest
        if !r.2.readable then (s, unreadable)
        else if !c.dynamic then (s, bare .fixedRecord)
        else match itemsRefused s.table ⟨c, 1⟩ r.1 r.2 with
          | some refusal => (s, refusal)
          | none =>
            match roomFor s.table c with
            | .inl code => (s, bare code)
            | .inr i => createRecord ⟨c, i⟩ r.1.values s

/-- A body that is one record key, checked by R1; the left is the refusal. -/
def readKey (t : Table) (bad : Reply) (body : List Byte) : Reply ⊕ RecKey :=
  match body with
  | [] => .inl bad
  | cls :: rest =>
    if (Cls.ofNumber cls.toNat).isNone then .inl (bare .noRecord)
    else match rest with
      | [inst] =>
        match checkRecord t cls inst with
        | .inl code => .inl (bare code)
        | .inr k => .inr k
      | _ => .inl bad

/-- RETIRE (R10, R163). -/
def retireRequest (body : List Byte) (s : State) : State × Reply :=
  match readKey s.table (bare .badValue) body with
  | .inl r => (s, r)
  | .inr k =>
    if k.cls.dynamic then (s.commit .link (retireDraft s.table k), bare .done)
    else (s, bare .fixedRecord)

/-! ## COLLECT and INTENT (R13, R16 to R18, R164) -/

/-- A control's byte: 00h-27h for keys, 80h-8Bh for knobs (12_formats). -/
def Control.byte : Control → Byte
  | .key k => Machine.byte k.val
  | .knob k => Machine.byte (0x80 + k.val)

/-- An action kind's byte (12_formats). -/
def ActionKind.byte : ActionKind → Byte
  | .key a => positionByte KeyAction.positions a
  | .detent => 0x0C
  | .push => 0x0D

/-- An intent entry of COLLECT (12_formats). -/
def intentBytes (t : Table) (k : RecKey) (i : Intent) : List Byte :=
  keyBytes k ++ [i.control.byte, i.kind.byte, byte i.field.ident, byte (i.total % 256).toNat]
    ++ (match i.arg with
        | some v => 1 :: encodeValue t v ⟨k, i.field⟩
        | none => [0])

/-- The four lists of COLLECT (R13). -/
def collectBody (t : Table) : List Byte :=
  byte t.changeSet.length :: (t.changeSet.flatMap fun k => keyBytes k ++ stampBytes (t.stampOf k))
    ++ byte t.retired.length :: t.retired.flatMap keyBytes
    ++ byte t.intents.length :: (t.intents.flatMap fun p => intentBytes t p.1 p.2)
    ++ byte t.panel.hostKeys.length :: t.panel.hostKeys.map byte

/-- The sets that a COLLECT empties (R13). It is no application event: nothing is stamped or marked. -/
def Table.collected (t : Table) : Table :=
  { t with changeSet := [], retired := [], panel := { t.panel with hostKeys := [] } }

/-- COLLECT (R13, R164). -/
def collectRequest (body : List Byte) (s : State) : State × Reply :=
  if body.isEmpty then ({ s with table := s.table.collected }, { code := .done, body := collectBody s.table })
  else (s, bare .badValue)

/-- A record's intent removed. -/
def State.removeIntent (k : RecKey) (s : State) : State :=
  { s with table := { s.table with intents := dropKey k s.table.intents } }

/-- An accepted intent (R17): it is removed and its action performed with authority 2. -/
def acceptIntent (k : RecKey) (i : Intent) (s : State) : State × Reply :=
  let s0 := s.removeIntent k
  match i.kind with
  | .key .force =>
    let p := s0.forceTrigger
    (p.1.pump, bare p.2)
  | .key .defaults =>
    let p := s0.takeDefaults
    if p.2 = .busy then (s, bare .busy) else (p.1, bare p.2)
  | _ =>
    let a := intentWrite s0.table k i
    let s' := s0.commit .panel (Draft.of a.1)
    (s', eventReply s0.table a.1 k a.2 [i.field] (s'.table.stampOf k))

/-- The record key of an INTENT and the intent it carries, or the refusal (R17, R18). -/
def readIntent (t : Table) (body : List Byte) : Reply ⊕ (RecKey × Intent) :=
  match readKey t (bare .badValue) body with
  | .inl r => .inl r
  | .inr k =>
    match findKey k t.intents with
    | none => .inl (bare .noIntent)
    | some i => .inr (k, i)

/-- INTENT with sub-action ACCEPT (R17, R164). -/
def intentAcceptRequest (body : List Byte) (s : State) : State × Reply :=
  match readIntent s.table body with
  | .inl r => (s, r)
  | .inr p => acceptIntent p.1 p.2 s

/-- INTENT with sub-action DROP (R18, R164). -/
def intentDropRequest (body : List Byte) (s : State) : State × Reply :=
  match readIntent s.table body with
  | .inl r => (s, r)
  | .inr p => (s.removeIntent p.1, bare .done)

/-! ## DEFAULTS and FORCE (R165) -/

/-- DEFAULTS from the link (R43). -/
def defaultsRequest (body : List Byte) (s : State) : State × Reply :=
  if body.isEmpty then
    let p := s.takeDefaults
    (p.1, bare p.2)
  else (s, bare .badValue)

/-- FORCE from the link (R87). -/
def forceRequest (body : List Byte) (s : State) : State × Reply :=
  if body.isEmpty then
    let p := s.forceTrigger
    (p.1.pump, bare p.2)
  else (s, bare .badValue)

/-! ## Storage requests (R146, R165) -/

/-- A label as STORE takes it: absent or empty is absent, a longer text is cut to 16 (R146, log 24); the outer `none` where it holds
a character outside 20h-7Eh. -/
def storeLabel (v : Value) : Option (Option Text) :=
  match v with
  | .text [] => some none
  | .text t => if t.all printable then some (some (t.take 16)) else none
  | _ => some none

/-- A category set that is not empty (R146). -/
def chosenCategories (b : Byte) : Option Categories :=
  match Categories.ofByte b with
  | some c => if c.isEmpty then none else some c
  | none => none

/-- STORE (R146, R147). -/
def storeRequest (body : List Byte) (s : State) : State × Reply :=
  match body with
  | [] => (s, bare .badValue)
  | slot :: rest =>
    let label : Option (Option (Option Text) × List Byte) :=
      match readText rest with
      | .good v rest => some (storeLabel v, rest)
      | .bad rest => some (none, rest)
      | .stuck | .unknownClass | .unknownField | .short => none
    match label with
    | some (label, [cats]) =>
      match s.writeRefused slot.toNat (label.isSome && (chosenCategories cats).isSome) with
      | some code => (s, bare code)
      | none =>
        match label, chosenCategories cats with
        | some label, some cats => (s.beginStore slot.toNat label cats, bare .started)
        | _, _ => (s, bare .badValue)
    | _ => (s, bare .badValue)

/-- RECALL (R146, R150). -/
def recallRequest (body : List Byte) (s : State) : State × Reply :=
  match body with
  | [slot, cats] =>
    match s.recallRefused slot.toNat (chosenCategories cats).isSome, chosenCategories cats with
    | some code, _ => (s, bare code)
    | none, some mask =>
      (s.beginOp .recalling { op := .recall, slot := slot.toNat, mask := mask } (some .read), bare .started)
    | none, none => (s, bare .badValue)
  | _ => (s, bare .badValue)

/-- ERASE (R146, R152). -/
def eraseRequest (body : List Byte) (s : State) : State × Reply :=
  match body with
  | [slot] =>
    match s.writeRefused slot.toNat true with
    | some code => (s, bare code)
    | none => (s.beginOp .erasing { op := .erase, slot := slot.toNat, mask := .all } none, bare .started)
  | _ => (s, bare .badValue)

/-- A summary's bytes (12_formats). -/
def SlotEntry.bytes : SlotEntry → List Byte
  | .empty => [0]
  | .valid label cats build => (1 : Byte) :: (optTextBytes label ++ [cats.byte, byte build])
  | .damaged => [2]
  | .foreign => [3]

/-- DIRECTORY (R143). -/
def directoryRequest (body : List Byte) (s : State) : State × Reply :=
  if body.isEmpty then
    match s.storeAbsent with
    | some code => (s, bare code)
    | none => (s, { code := .done, body := s.engine.directory.flatMap SlotEntry.bytes })
  else (s, bare .badValue)

/-- The phase byte of STORAGE STATUS. -/
def phaseByte : Option Phase → Byte
  | none => 0
  | some .erase => 1
  | some .program => 2
  | some .verify => 3
  | some .read => 4
  | some .apply => 5

/-- The 9 bytes of STORAGE STATUS (12_formats). -/
def storageStatusBody (s : State) : List Byte :=
  let e := s.engine
  [positionByte StoreState.positions s.table.system.storeState, phaseByte e.phase,
   match e.page with | some p => byte p | none => 0xFF,
   if e.protect then 1 else 0,
   match e.result.op with | some o => positionByte Operation.positions o | none => 0xFF,
   match e.result.slot with | some n => byte n | none => 0xFF,
   match e.result.outcome with | .none => 0 | .done => 1 | .failed _ => 2,
   match e.result.outcome with | .failed r => positionByte Reason.positions r | .none | .done => 0xFF,
   if e.result.unread then 1 else 0]

/-- STORAGE STATUS (R145): the record is read and unread becomes false in the same step. -/
def storageStatusRequest (body : List Byte) (s : State) : State × Reply :=
  if body.isEmpty then
    match s.storeAbsent with
    | some code => (s, bare code)
    | none =>
      (s.onEngine fun e => { e with result := { e.result with unread := false } },
       { code := .done, body := storageStatusBody s })
  else (s, bare .badValue)

/-- PROTECT (R153). -/
def protectRequest (body : List Byte) (s : State) : State × Reply :=
  if body.isEmpty then
    match s.protectRefused with
    | some code => (s, bare code)
    | none =>
      (s.onEngine fun e => { e with protect := true }, bare (if s.engine.protect then .doneNoEffect else .done))
  else (s, bare .badValue)

/-! ## FAULTS (R171 to R173) -/

/-- A detail's two bytes (12_formats). -/
def FaultDetail.bytes : FaultDetail → List Byte
  | .frame c => [positionByte FrameFault.positions c, 0]
  | .knob k => [byte k, 0]
  | .lamp k => [byte k, 0]
  | .request k => [positionByte RequestKind.positions k, 0]
  | .code c => [c, 0]
  | .storeFail n r => [byte n, positionByte Reason.positions r]
  | .slot n => [byte n, 0]

/-- The 3 bytes of a detail: 00h and two zero bytes where it is absent (12_formats). -/
def detailBytes : Option FaultDetail → List Byte
  | some d => (1 : Byte) :: d.bytes
  | none => [0, 0, 0]

/-- A severity's byte. -/
def Severity.byte : Severity → Byte
  | .note => 0
  | .stop => 1

/-- A class's 7 bytes of FAULTS READ (12_formats). -/
def FaultEntry.bytes (e : FaultEntry) : List Byte :=
  [if e.status then 1 else 0, byte e.count] ++ detailBytes e.detail ++ [if e.masked then 1 else 0, e.severity.byte]

/-- The body of FAULTS READ: first_fault and the eight classes (R171). -/
def faultsBody (f : Faults) : List Byte :=
  (match f.first with | some c => positionByte FaultClass.positions c | none => 0xFF) :: f.entries.flatMap FaultEntry.bytes

/-- FAULTS READ (R171); `args` is what follows the sub-action. -/
def faultsReadRequest (args : List Byte) (s : State) : State × Reply :=
  if args.isEmpty then (s, { code := .done, body := faultsBody s.faults }) else (s, bare .badValue)

/-- The entries of the classes a set names, each changed by `f`. -/
def Faults.onSet (set : Byte) (f : FaultEntry → FaultEntry) (g : Faults) : List FaultEntry :=
  g.entries.mapIdx fun i e => if set.getLsbD i then f e else e

/-- A cleared entry (R172). -/
def FaultEntry.cleared (e : FaultEntry) : FaultEntry := { e with status := false, count := 0, detail := none }

/-- The fault table after FAULTS CLEAR (R172): first_fault becomes NONE when no class is left set. -/
def Faults.clear (set : Byte) (g : Faults) : Faults :=
  let entries := g.onSet set FaultEntry.cleared
  { entries := entries, first := if entries.any (·.status) then g.first else none }

/-- FAULTS CLEAR (R172). -/
def faultsClearRequest (args : List Byte) (s : State) : State × Reply :=
  match args with
  | [set] =>
    let cleared := (s.faults.entries.zipIdx).any fun p => p.1.status && set.getLsbD p.2
    ({ s with faults := s.faults.clear set }, bare (if cleared then .done else .doneNoEffect))
  | _ => (s, bare .badValue)

/-- A mask byte of FAULTS SETUP: the outer `none` outside its values, the inner where it is not given. -/
def maskOfByte (b : Byte) : Option (Option Bool) :=
  if b = 0 then some (some false) else if b = 1 then some (some true) else if b = 0xFF then some none else none

/-- A severity byte of FAULTS SETUP. -/
def severityOfByte (b : Byte) : Option (Option Severity) :=
  if b = 0 then some (some .note) else if b = 1 then some (some .stop) else if b = 0xFF then some none else none

/-- An entry after FAULTS SETUP (R173). -/
def FaultEntry.setup (mask : Option Bool) (severity : Option Severity) (e : FaultEntry) : FaultEntry :=
  { e with masked := mask.getD e.masked, severity := severity.getD e.severity }

/-- FAULTS SETUP (R173). -/
def faultsSetupRequest (args : List Byte) (s : State) : State × Reply :=
  match args with
  | [set, m, v] =>
    match maskOfByte m, severityOfByte v with
    | some mask, some severity =>
      let entries := s.faults.onSet set (FaultEntry.setup mask severity)
      ({ s with faults := { s.faults with entries := entries } },
       bare (if entries = s.faults.entries then .doneNoEffect else .done))
    | _, _ => (s, bare .badValue)
  | _ => (s, bare .badValue)

end Sys2Proof.Machine
end

