-- ==== Sys2Proof/Machine/ResetRows.lean ====
section
/-! DEFINITION. The resets: POWER_ON_RESET, DEVICE_RESET, RESET_END (R19, R20, R30, R139, R156, R167, R174). -/

namespace Sys2Proof.Machine

/-- The build a level of the CHSEL strap selects: high the 4-channel build, low the 2-channel one (R30). -/
def buildOf (chsel : Bool) : Nat := if chsel then 4 else 2

/-- The whole part in its starting state, with the reset still asserted (R19). -/
def State.powerOn (chsel : Bool) (s : State) : State := { State.start (buildOf chsel) with pending := s.pending }

/-- The fault table at a device reset (R174): status, count and detail kept, unmasked, the default severities; first_fault kept. -/
def Faults.afterDeviceReset (f : Faults) : Faults :=
  { entries := (f.entries.zip FaultClass.positions).map fun p => { p.1 with masked := false, severity := defaultSeverity p.2 }
    first := f.first }

/-- A device reset (R19, R20, R153, R174): the starting state again, but for the kept fault table and protect latch and the
free-running time base (log 4). -/
def State.reboot (chsel : Bool) (s : State) : State :=
  let s0 := State.start (buildOf chsel)
  { s0 with
    engine := { s0.engine with protect := s.engine.protect }
    faults := s.faults.afterDeviceReset
    clock := { s0.clock with now := s.clock.now }
    pending := s.pending }

/-- What the time base drives, as a reset ends: scans, knob samples and PWM periods at once, the flash clock at the end of its lit
half (R44, R53, R61, R62, R115; log 4). -/
def Clock.released (c : Clock) : Clock :=
  { c with scanAt := c.now, knobAt := c.now, pwmAt := c.now, backlightAt := c.now, flashAt := after c.now 500000 }

/-- The end of a reset (R167): QUERY is sent and CAPTURE_LATE falls due (R97), the flash is detected (R139), the first frame starts
(R103). -/
def State.release (s : State) : State :=
  if s.inReset then
    let s := { s with
      inReset := false
      clock := s.clock.released
      port := { s.port with lateAt := some (after s.clock.now 500000) }
      engine := { s.engine with deadline := some (after s.clock.now 2000000) } }
    ((s.sendQuery).issueFlash .status).frameStartIfDue
  else s

/-- POWER_ON_RESET. -/
def execPowerOnReset (chsel : Bool) (s : State) : Host.Outcome State Fault Refusal := always (State.powerOn chsel) s

/-- DEVICE_RESET. -/
def execDeviceReset (chsel : Bool) (s : State) : Host.Outcome State Fault Refusal := always (State.reboot chsel) s

/-- RESET_END. -/
def execResetEnd (s : State) : Host.Outcome State Fault Refusal := always State.release s

end Sys2Proof.Machine
end

