-- ==== Sys2Proof/Machine/LinkRows.lean ====
section
/-! DEFINITION. The rows of the Setting Link: the periods, and the requests answered by the link, the Setting Table and the Run Controller. -/

namespace Sys2Proof.Machine

/-- WRITE_PERIOD (R157 to R159). -/
def execWritePeriod (bytes : List Byte) (s : State) : Host.Outcome State Fault Refusal :=
  checked (.writePeriod bytes) (State.writePeriod bytes) s

/-- READ_PERIOD (R157, R160). -/
def execReadPeriod (n : Nat) (s : State) : Host.Outcome State Fault Refusal :=
  command (State.readPeriod n) s

/-- HELD_REQUEST_TAKEN (R159; log 8). -/
def execHeldRequestTaken (s : State) : Host.Outcome State Fault Refusal :=
  command State.takeHeld s

/-- IDENTIFY (R162). -/
def execIdentify (s : State) : Host.Outcome State Fault Refusal :=
  command (State.answerRequest .identify identifyRequest) s

/-- LOOKUP (R162). -/
def execLookup (s : State) : Host.Outcome State Fault Refusal :=
  command (State.answerRequest .lookup lookupRequest) s

/-- AMEND (R7, R163). -/
def execAmend (s : State) : Host.Outcome State Fault Refusal :=
  command (State.answerRequest .amend amendRequest) s

/-- CREATE (R9, R163). -/
def execCreate (s : State) : Host.Outcome State Fault Refusal :=
  command (State.answerRequest .create createRequest) s

/-- RETIRE (R10, R163). -/
def execRetire (s : State) : Host.Outcome State Fault Refusal :=
  command (State.answerRequest .retire retireRequest) s

/-- COLLECT (R13, R164). -/
def execCollect (s : State) : Host.Outcome State Fault Refusal :=
  command (State.answerRequest .collect collectRequest) s

/-- INTENT_ACCEPT (R17, R164). -/
def execIntentAccept (s : State) : Host.Outcome State Fault Refusal :=
  command (State.answerSub .intent 0 intentAcceptRequest) s

/-- INTENT_DROP (R18, R164). -/
def execIntentDrop (s : State) : Host.Outcome State Fault Refusal :=
  command (State.answerSub .intent 1 intentDropRequest) s

/-- DEFAULTS (R43, R165). -/
def execDefaults (s : State) : Host.Outcome State Fault Refusal :=
  command (State.answerRequest .defaults defaultsRequest) s

/-- FORCE (R87, R165). -/
def execForce (s : State) : Host.Outcome State Fault Refusal :=
  command (State.answerRequest .force forceRequest) s

end Sys2Proof.Machine
end

