-- ==== Sys2Proof/Machine/StorageRows.lean ====
section
/-! DEFINITION. The rows of the Storage Engine: its link requests, the flash's answers, timeouts and the start-up. -/

namespace Sys2Proof.Machine

/-- STORE (R146, R147). -/
def execStore (s : State) : Host.Outcome State Fault Refusal :=
  command (State.answerRequest .store storeRequest) s

/-- RECALL (R146, R150). -/
def execRecall (s : State) : Host.Outcome State Fault Refusal :=
  command (State.answerRequest .recall recallRequest) s

/-- ERASE (R146, R152). -/
def execErase (s : State) : Host.Outcome State Fault Refusal :=
  command (State.answerRequest .erase eraseRequest) s

/-- DIRECTORY (R143). -/
def execDirectory (s : State) : Host.Outcome State Fault Refusal :=
  command (State.answerRequest .directory directoryRequest) s

/-- STORAGE_STATUS (R145). -/
def execStorageStatus (s : State) : Host.Outcome State Fault Refusal :=
  command (State.answerRequest .storageStatus storageStatusRequest) s

/-- PROTECT (R153). -/
def execProtect (s : State) : Host.Outcome State Fault Refusal :=
  command (State.answerRequest .protect protectRequest) s

/-- FLASH_DETECTION (R139). -/
def execFlashDetection (id0 id1 id2 : Byte) (s : State) : Host.Outcome State Fault Refusal :=
  command (State.detectFlash id0 id1 id2) s

/-- FLASH_READY_TIMEOUT (R139). -/
def execFlashReadyTimeout (s : State) : Host.Outcome State Fault Refusal :=
  command State.detectTimeout s

/-- START_UP_SCAN (R154, R155). -/
def execStartUpScan (sectors : List (List Byte)) (s : State) : Host.Outcome State Fault Refusal :=
  checked (.startUpScan sectors) (State.scanSlots sectors) s

/-- STORE_ERASE_DONE (R148). -/
def execStoreEraseDone (status : Byte) (sector : List Byte) (s : State) : Host.Outcome State Fault Refusal :=
  checked (.storeEraseDone status sector) (State.storeErased status sector) s

/-- STORE_ERASE_TIMEOUT (R148). -/
def execStoreEraseTimeout (s : State) : Host.Outcome State Fault Refusal :=
  command State.storeEraseTimeout s

/-- PAGE_PROGRAM_DONE (R148). -/
def execPageProgramDone (status : Byte) (sector : List Byte) (s : State) : Host.Outcome State Fault Refusal :=
  checked (.pageProgramDone status sector) (State.pageProgrammed status sector) s

/-- PAGE_PROGRAM_TIMEOUT (R148). -/
def execPageProgramTimeout (s : State) : Host.Outcome State Fault Refusal :=
  command State.pageTimeout s

/-- VERIFY (R149). -/
def execVerify (sector : List Byte) (s : State) : Host.Outcome State Fault Refusal :=
  checked (.verify sector) (State.verifySector sector) s

/-- RECALL_READ (R150). -/
def execRecallRead (sector : List Byte) (s : State) : Host.Outcome State Fault Refusal :=
  checked (.recallRead sector) (State.recallSector sector) s

/-- RECALL_READY_TIMEOUT (R150). -/
def execRecallReadyTimeout (s : State) : Host.Outcome State Fault Refusal :=
  command State.recallTimeout s

/-- APPLY (R151). -/
def execApply (s : State) : Host.Outcome State Fault Refusal :=
  command State.applyImage s

/-- SLOT_ERASE_DONE (R152). -/
def execSlotEraseDone (status : Byte) (sector : List Byte) (s : State) : Host.Outcome State Fault Refusal :=
  checked (.slotEraseDone status sector) (State.slotErased status sector) s

/-- SLOT_ERASE_TIMEOUT (R152). -/
def execSlotEraseTimeout (s : State) : Host.Outcome State Fault Refusal :=
  command State.slotEraseTimeout s

/-- FLASH_REPORTS_READY (R149). -/
def execFlashReportsReady (s : State) : Host.Outcome State Fault Refusal :=
  command State.flashReady s

end Sys2Proof.Machine
end

