-- ==== Sys2Proof/Machine/FaultRows.lean ====
section
/-! DEFINITION. The rows of the Fault Unit, and the events of owners run and fault. -/

namespace Sys2Proof.Machine

/-- FAULTS_READ (R171). -/
def execFaultsRead (s : State) : Host.Outcome State Fault Refusal :=
  command (State.answerSub .faults 0 faultsReadRequest) s

/-- FAULTS_CLEAR (R172). -/
def execFaultsClear (s : State) : Host.Outcome State Fault Refusal :=
  command (State.answerSub .faults 1 faultsClearRequest) s

/-- FAULTS_SETUP (R173). -/
def execFaultsSetup (s : State) : Host.Outcome State Fault Refusal :=
  command (State.answerSub .faults 2 faultsSetupRequest) s

/-- The table takes a waiting event of owner run: run_state becomes STOP when it is still SINGLE (R86). -/
def State.takeOwnerRun (s : State) : State :=
  if s.inbox.ownerRun = 0 then s
  else
    let s := { s with inbox := { s.inbox with ownerRun := s.inbox.ownerRun - 1 } }
    if s.table.acquire.runState = .single then s.commit .run (runStateDraft s.table .stop) else s

/-- The table takes a waiting event of owner fault: run_state becomes STOP (R170). -/
def State.takeOwnerFault (s : State) : State :=
  if s.inbox.ownerFault = 0 then s
  else
    let s := { s with inbox := { s.inbox with ownerFault := s.inbox.ownerFault - 1 } }
    s.commit .fault (runStateDraft s.table .stop)

/-- OWNER_RUN_EVENT (R86). -/
def execOwnerRunEvent (s : State) : Host.Outcome State Fault Refusal :=
  command State.takeOwnerRun s

/-- OWNER_FAULT_EVENT (R170). -/
def execOwnerFaultEvent (s : State) : Host.Outcome State Fault Refusal :=
  command State.takeOwnerFault s

end Sys2Proof.Machine
end

