-- ==== Sys2Proof/Machine/PanelRows.lean ====
section
/-! DEFINITION. The rows of the panel: scans, samples and the table taking panel actions (R15, R16, R44 to R58). -/

namespace Sys2Proof.Machine

/-- A panel action that the table refuses (R15, R16): its record's intent is set, and the error blink of its control runs (R63). -/
def State.refuse (c : Control) (kind : ActionKind) (r : Ref) (up : Bool) (arg : Option Value) (s : State) : State :=
  let i := intentAfter (findKey r.key s.table.intents) c kind r.field up arg
  ({ s with table := { s.table with intents := setKey r.key i s.table.intents } }).errorBlink c

/-- An admitted panel action that writes its field, in one event of owner panel (R15, R50, R57, R58). -/
def State.panelEvent (w : Table × List (Field × FieldOutcome)) (s : State) : State := s.commit .panel (Draft.of w.1)

/-- A press action that the table admits (R50, R51). -/
def State.doPress (key : Fin 40) (a : KeyAction) (r : Ref) (arg : Option Value) (s : State) : State :=
  match a with
  | .force =>
    let p := s.forceTrigger
    if p.2 = .notArmed then p.1.pump.errorBlink (.key key) else p.1.pump
  | .defaults =>
    let p := s.takeDefaults
    if p.2 = .busy then p.1.errorBlink (.key key) else p.1
  | .toggle | .stepUp | .stepDown | .cycle | .setValue | .runToggle | .returnLocal | .focus | .host | .none =>
    s.panelEvent (panelWrite s.table r (pressValue s.table (.key key) a r arg))

/-- A detent that the table refuses (R16): its intent names the field of `refusedRef`; a K11 detent refused while the focus is NONE
does nothing (log 45). -/
def State.refuseDetent (k : Fin 12) (r : Ref) (d : Dir) (s : State) : State :=
  match refusedRef s.table k r with
  | some q => s.refuse (.knob k) .detent q (d == .cw) none
  | none => s

/-- The table takes a panel action (R15). One whose target record is gone by then does nothing (log 27). Admission, and what an
admitted action moves, are of the field and argument the action carries; what a refused one leaves is of those R16 names when the
intent is set (log 45). -/
def State.takeAction (p : PanelAction) (s : State) : State :=
  match p with
  | .press key a r arg =>
    if !s.table.has r.key then s
    else if admitted s.table r then s.doPress key a r arg
    else s.refuse (.key key) (.key a) r true (refusedArg s.table key a r arg)
  | .detent k r d mult =>
    if !s.table.has r.key then s
    else if admitted s.table r then s.panelEvent (detentWrite s.table r (d == .cw) mult)
    else s.refuseDetent k r d
  | .push k r =>
    if !s.table.has r.key then s
    else if admitted s.table r then s.panelEvent (panelWrite s.table r (pushValue s.table k))
    else s.refuse (.knob k) .push r true none

/-- The oldest element of a list that satisfies `p`, and the rest. -/
def takeFirst {α : Type} (p : α → Bool) : List α → Option (α × List α)
  | [] => none
  | x :: xs => if p x then some (x, xs) else (takeFirst p xs).map fun r => (r.1, x :: r.2)

/-- The table takes the oldest waiting action that satisfies `p` (log 9). -/
def State.takeWaiting (p : PanelAction → Bool) (s : State) : State :=
  match takeFirst p s.inbox.actions with
  | some (a, rest) => ({ s with inbox := { s.inbox with actions := rest } }).takeAction a
  | none => s

def PanelAction.isPress (key : Fin 40) : PanelAction → Bool
  | .press k _ _ _ => k == key
  | .detent _ _ _ _ | .push _ _ => false

def PanelAction.isDetent (knob : Fin 12) : PanelAction → Bool
  | .detent k _ _ _ => k == knob
  | .press _ _ _ _ | .push _ _ => false

def PanelAction.isPush (knob : Fin 12) : PanelAction → Bool
  | .push k _ => k == knob
  | .press _ _ _ _ | .detent _ _ _ _ => false

/-- A key's repeat target time set. -/
def State.setRepeat (key : Fin 40) (t : Option Time) (s : State) : State :=
  { s with scanner := { s.scanner with keys := s.scanner.keys.modify key.val fun e => { e with repeatAt := t } } }

/-- What a repeat does once its time has come (R52): a retired target ends it, a ghost hold or a LINE level submits nothing, and
otherwise the press action is submitted anew and taken. -/
def State.repeatPress (key : Fin 40) (b : Keybind) (s : State) : State :=
  let next := some (after s.clock.now 100000)
  if s.scanner.ghost then s.setRepeat key next
  else if targetAbsent s.table b then s.setRepeat key none
  else match pressAction s.table key b with
    | none => s.setRepeat key next
    | some a =>
      let s := s.setRepeat key next
      ({ s with inbox := { s.inbox with actions := s.inbox.actions ++ [a] } }).takeWaiting (PanelAction.isPress key)

/-- A held key's repeat target time arrives (R52). -/
def State.repeatExpiry (key : Fin 40) (s : State) : State :=
  match s.scanner.keys[key.val]?, s.table.keybinds[key.val]? with
  | some e, some b =>
    match e.repeatAt with
    | some t => if e.state = .pressed then (s.arrive t).repeatPress key b else s
    | none => s
  | _, _ => s

/-- A scan of the matrix and the push switches at its due time (R44). -/
def State.keyScan (keys : BitVec 40) (pushes : BitVec 12) (s : State) : State :=
  let s := (s.arrive s.clock.scanAt).scanPanel keys pushes
  { s with clock := { s.clock with scanAt := after s.clock.now 1000 } }

/-- A sample of the knob lines at its due time (R53). -/
def State.knobSample (a b : BitVec 12) (s : State) : State :=
  let s := (s.arrive s.clock.knobAt).sampleKnobs a b
  { s with clock := { s.clock with knobAt := after s.clock.now 50 } }

/-- KEY_SCAN (R44 to R48, R58). -/
def execKeyScan (keys : BitVec 40) (pushes : BitVec 12) (s : State) : Host.Outcome State Fault Refusal :=
  command (State.keyScan keys pushes) s

/-- PRESS_ACTION (R50, R51). -/
def execPressAction (key : Fin 40) (s : State) : Host.Outcome State Fault Refusal :=
  command (State.takeWaiting (PanelAction.isPress key)) s

/-- REPEAT_TARGET_EXPIRY (R52). -/
def execRepeatTargetExpiry (key : Fin 40) (s : State) : Host.Outcome State Fault Refusal :=
  command (State.repeatExpiry key) s

/-- KNOB_SAMPLE (R53, R54, R56). -/
def execKnobSample (a b : BitVec 12) (s : State) : Host.Outcome State Fault Refusal :=
  command (State.knobSample a b) s

/-- DETENT (R57). -/
def execDetent (knob : Fin 12) (s : State) : Host.Outcome State Fault Refusal :=
  command (State.takeWaiting (PanelAction.isDetent knob)) s

/-- PUSH (R58). -/
def execPush (knob : Fin 12) (s : State) : Host.Outcome State Fault Refusal :=
  command (State.takeWaiting (PanelAction.isPush knob)) s

end Sys2Proof.Machine
end

