-- ==== Sys2Proof/Machine/LampRows.lean ====
section
/-! DEFINITION. The rows of the Lamp Driver: PWM periods, error blinks and the flash clock (R61 to R64). -/

namespace Sys2Proof.Machine

/-- One lamp's PWM period (R62, R64): the lamp sensed, and LAMP_OPEN reported when it goes FAILED. Whether the lamp is lit in the period
is judged by its state at the period's start alone: one that turns lit or dark part-way through counts as it began (DESIGN CHOICE,
log 51). -/
def State.senseLamp (opens : BitVec 24) (s : State) (k : Nat) : State :=
  match s.lamps.entries[k]?, s.table.lampbinds[k]? with
  | some l, some b =>
    let r := l.sense b.diag s.lamps.flashLit (opens.getLsbD k) s.lamps.onTime
    let s' := { s with lamps := { s.lamps with entries := s.lamps.entries.set k r.1 } }
    if r.2 then s'.report .lampOpen (some (.lamp k)) else s'
  | _, _ => s

/-- A PWM period at its due time (R62): the on-time of the DISPLAY fields is used from its start, and every lamp is sensed (R64). Lamps
that fail in one period are reported in ascending lamp order (R169 leaves the order open: DESIGN CHOICE, log 48). -/
def State.lampPeriod (opens : BitVec 24) (s : State) : State :=
  let s := s.arrive s.clock.pwmAt
  let s := { s with lamps := { s.lamps with onTime := lampOnTime s.table }
                    clock := { s.clock with pwmAt := after s.clock.now 4096 } }
  (List.range 24).foldl (State.senseLamp opens) s

/-- A phase of one lamp's error blink ends at its time (R63). -/
def State.blinkPhase (lamp : Fin 24) (s : State) : State :=
  match (s.lamps.entries[lamp.val]?).bind (·.phaseEnd) with
  | some t =>
    let s := s.arrive t
    { s with lamps := { s.lamps with entries := s.lamps.entries.modify lamp.val fun l => l.endPhase s.clock.now } }
  | none => s

/-- The flash clock changes halves at its time (R61). -/
def State.flashPhase (s : State) : State :=
  let s := s.arrive s.clock.flashAt
  { s with lamps := { s.lamps with flashLit := !s.lamps.flashLit }
           clock := { s.clock with flashAt := after s.clock.now 500000 } }

/-- A lamp is driven lit in the present period: it is ON or in a lit phase, and the on-time is not 0 (R59, R62). -/
def State.lampDriven (s : State) (k : Nat) : Bool :=
  ((s.lamps.entries[k]?).any fun l => l.driven s.lamps.flashLit) && decide (0 < s.lamps.onTime)

/-- LAMP_PWM_PERIOD (R62, R64). -/
def execLampPwmPeriod (opens : BitVec 24) (s : State) : Host.Outcome State Fault Refusal :=
  command (State.lampPeriod opens) s

/-- ERROR_BLINK_PHASE (R63). -/
def execErrorBlinkPhase (lamp : Fin 24) (s : State) : Host.Outcome State Fault Refusal :=
  command (State.blinkPhase lamp) s

/-- FLASH_CLOCK_PHASE (R61). -/
def execFlashClockPhase (s : State) : Host.Outcome State Fault Refusal :=
  command State.flashPhase s

end Sys2Proof.Machine
end

