-- ==== Sys2Proof/Machine/PortRows.lean ====
section
/-! DEFINITION. The rows of the Capture Port and the Run Controller: messages of the capture controller and the port's timers (R83 to R98). -/

namespace Sys2Proof.Machine

/-- A message taken when its bytes make one (12_formats); any other is discarded as if it had not arrived (log 13). -/
def State.takeMessage (f : CaptureMsg → State → State) (msg : List Byte) (s : State) : State :=
  match readMessage msg with
  | some m => f m s
  | none => s

/-- ACK taken. -/
def onAck : CaptureMsg → State → State
  | .ack => State.takeAck
  | .reduceData _ _ _ _ | .hello | .prefilled _ | .triggered _ _ | .complete _ | .fault _ => id

/-- REDUCE data taken. -/
def onReduceData : CaptureMsg → State → State
  | .reduceData first last least greatest => State.takeReduceData first last least greatest
  | .ack | .hello | .prefilled _ | .triggered _ _ | .complete _ | .fault _ => id

/-- HELLO taken. -/
def onHello : CaptureMsg → State → State
  | .hello => State.takeHello
  | .ack | .reduceData _ _ _ _ | .prefilled _ | .triggered _ _ | .complete _ | .fault _ => id

/-- A notice that names a bank, handled when it is taken (R83). -/
def State.onNotice (n : Nat) (f : Bank → State → State) (s : State) : State :=
  match s.noticeBank n with
  | some x => f x s
  | none => s

/-- PREFILLED taken. -/
def onPrefilled : CaptureMsg → State → State
  | .prefilled n => State.onNotice n State.takePrefilled
  | .ack | .reduceData _ _ _ _ | .hello | .triggered _ _ | .complete _ | .fault _ => id

/-- TRIGGERED taken. -/
def onTriggered : CaptureMsg → State → State
  | .triggered n forced => State.onNotice n fun x => State.takeTriggered x forced
  | .ack | .reduceData _ _ _ _ | .hello | .prefilled _ | .complete _ | .fault _ => id

/-- COMPLETE taken. -/
def onComplete : CaptureMsg → State → State
  | .complete n => State.onNotice n State.takeComplete
  | .ack | .reduceData _ _ _ _ | .hello | .prefilled _ | .triggered _ _ | .fault _ => id

/-- A FAULT notice taken while the port is ONLINE (R98). -/
def onFault : CaptureMsg → State → State
  | .fault c => fun s => if s.table.system.captureOnline then s.report .captureReported (some (.code c)) else s
  | .ack | .reduceData _ _ _ _ | .hello | .prefilled _ | .triggered _ _ | .complete _ => id

/-- The answer deadline of the outstanding request passes (R96). -/
def State.portDeadline (s : State) : State :=
  match s.port.outstanding with
  | some (q, t) => (s.arrive t).failPort q
  | none => s

/-- The next QUERY falls due while the port is OFFLINE (R97). -/
def State.queryDue (s : State) : State :=
  match s.port.queryAt with
  | some t => if s.table.system.captureOnline then s else (s.arrive t).sendQuery
  | none => s

/-- No HELLO has been taken 500,000 us after a reset: reported once (R97). -/
def State.hearingLate (s : State) : State :=
  match s.port.lateAt with
  | some t =>
    let s := s.arrive t
    ({ s with port := { s.port with lateAt := none } }).report .captureLate none
  | none => s

/-- ACK (R81, R95). -/
def execAck (msg : List Byte) (s : State) : Host.Outcome State Fault Refusal :=
  command (State.takeMessage onAck msg) s

/-- REDUCE_DATA (R95, R119). -/
def execReduceData (msg : List Byte) (s : State) : Host.Outcome State Fault Refusal :=
  command (State.takeMessage onReduceData msg) s

/-- HELLO (R97). -/
def execHello (msg : List Byte) (s : State) : Host.Outcome State Fault Refusal :=
  command (State.takeMessage onHello msg) s

/-- PREFILLED (R83, R84). -/
def execPrefilled (msg : List Byte) (s : State) : Host.Outcome State Fault Refusal :=
  command (State.takeMessage onPrefilled msg) s

/-- TRIGGERED (R83, R85). -/
def execTriggered (msg : List Byte) (s : State) : Host.Outcome State Fault Refusal :=
  command (State.takeMessage onTriggered msg) s

/-- COMPLETE (R83, R86). -/
def execComplete (msg : List Byte) (s : State) : Host.Outcome State Fault Refusal :=
  command (State.takeMessage onComplete msg) s

/-- FAULT_NOTICE (R98). -/
def execFaultNotice (msg : List Byte) (s : State) : Host.Outcome State Fault Refusal :=
  command (State.takeMessage onFault msg) s

/-- PORT_FAILURE (R96). -/
def execPortFailure (s : State) : Host.Outcome State Fault Refusal :=
  command State.portDeadline s

/-- QUERY_RETRY (R97). -/
def execQueryRetry (s : State) : Host.Outcome State Fault Refusal :=
  command State.queryDue s

/-- CAPTURE_LATE (R97). -/
def execCaptureLate (s : State) : Host.Outcome State Fault Refusal :=
  command State.hearingLate s

/-- AUTO_TIMER_EXPIRY (R88). -/
def execAutoTimerExpiry (s : State) : Host.Outcome State Fault Refusal :=
  command State.expireAutoTimer s

end Sys2Proof.Machine
end

