-- ==== Sys2Proof/Machine/ScreenRows.lean ====
section
/-! DEFINITION. The rows of the Composer and the backlight (R102 to R107, R115). -/

namespace Sys2Proof.Machine

/-- A backlight period at its due time (R115). -/
def State.backlightDue (s : State) : State :=
  let s := (s.arrive s.clock.backlightAt).backlightPeriod
  { s with clock := { s.clock with backlightAt := after s.clock.now 4000 } }

/-- FRAME_START (R103, R105). -/
def execFrameStart (s : State) : Host.Outcome State Fault Refusal :=
  command State.frameStartIfDue s

/-- FRAME_END (R106). -/
def execFrameEnd (s : State) : Host.Outcome State Fault Refusal :=
  command State.frameEnd s

/-- VERTICAL_BLANK (R102, R103). -/
def execVerticalBlank (s : State) : Host.Outcome State Fault Refusal :=
  command State.verticalBlank s

/-- BACKLIGHT_PWM_PERIOD (R115). -/
def execBacklightPwmPeriod (s : State) : Host.Outcome State Fault Refusal :=
  command State.backlightDue s

end Sys2Proof.Machine
end

