-- ==== Sys2Proof/Machine/Dispatch.lean ====
section
/-! DEFINITION. The dispatch: one arm per command, each one direct call of its meaning. -/

namespace Sys2Proof.Machine

def exec (i : Instr) (s : State) : Host.Outcome State Fault Refusal :=
  match i with
  | .powerOnReset chsel => Sys2Proof.Machine.execPowerOnReset chsel s
  | .deviceReset chsel => Sys2Proof.Machine.execDeviceReset chsel s
  | .writePeriod bytes => Sys2Proof.Machine.execWritePeriod bytes s
  | .readPeriod n => Sys2Proof.Machine.execReadPeriod n s
  | .heldRequestTaken => Sys2Proof.Machine.execHeldRequestTaken s
  | .identify => Sys2Proof.Machine.execIdentify s
  | .lookup => Sys2Proof.Machine.execLookup s
  | .amend => Sys2Proof.Machine.execAmend s
  | .create => Sys2Proof.Machine.execCreate s
  | .retire => Sys2Proof.Machine.execRetire s
  | .collect => Sys2Proof.Machine.execCollect s
  | .intentAccept => Sys2Proof.Machine.execIntentAccept s
  | .intentDrop => Sys2Proof.Machine.execIntentDrop s
  | .defaults => Sys2Proof.Machine.execDefaults s
  | .force => Sys2Proof.Machine.execForce s
  | .store => Sys2Proof.Machine.execStore s
  | .recall => Sys2Proof.Machine.execRecall s
  | .erase => Sys2Proof.Machine.execErase s
  | .directory => Sys2Proof.Machine.execDirectory s
  | .storageStatus => Sys2Proof.Machine.execStorageStatus s
  | .protect => Sys2Proof.Machine.execProtect s
  | .faultsRead => Sys2Proof.Machine.execFaultsRead s
  | .faultsClear => Sys2Proof.Machine.execFaultsClear s
  | .faultsSetup => Sys2Proof.Machine.execFaultsSetup s
  | .keyScan keys pushes => Sys2Proof.Machine.execKeyScan keys pushes s
  | .pressAction key => Sys2Proof.Machine.execPressAction key s
  | .repeatTargetExpiry key => Sys2Proof.Machine.execRepeatTargetExpiry key s
  | .knobSample a b => Sys2Proof.Machine.execKnobSample a b s
  | .detent knob => Sys2Proof.Machine.execDetent knob s
  | .push knob => Sys2Proof.Machine.execPush knob s
  | .lampPwmPeriod opens => Sys2Proof.Machine.execLampPwmPeriod opens s
  | .errorBlinkPhase lamp => Sys2Proof.Machine.execErrorBlinkPhase lamp s
  | .flashClockPhase => Sys2Proof.Machine.execFlashClockPhase s
  | .ownerRunEvent => Sys2Proof.Machine.execOwnerRunEvent s
  | .ownerFaultEvent => Sys2Proof.Machine.execOwnerFaultEvent s
  | .ack msg => Sys2Proof.Machine.execAck msg s
  | .reduceData msg => Sys2Proof.Machine.execReduceData msg s
  | .hello msg => Sys2Proof.Machine.execHello msg s
  | .prefilled msg => Sys2Proof.Machine.execPrefilled msg s
  | .triggered msg => Sys2Proof.Machine.execTriggered msg s
  | .complete msg => Sys2Proof.Machine.execComplete msg s
  | .faultNotice msg => Sys2Proof.Machine.execFaultNotice msg s
  | .portFailure => Sys2Proof.Machine.execPortFailure s
  | .queryRetry => Sys2Proof.Machine.execQueryRetry s
  | .captureLate => Sys2Proof.Machine.execCaptureLate s
  | .autoTimerExpiry => Sys2Proof.Machine.execAutoTimerExpiry s
  | .frameStart => Sys2Proof.Machine.execFrameStart s
  | .frameEnd => Sys2Proof.Machine.execFrameEnd s
  | .verticalBlank => Sys2Proof.Machine.execVerticalBlank s
  | .backlightPwmPeriod => Sys2Proof.Machine.execBacklightPwmPeriod s
  | .flashDetection id0 id1 id2 => Sys2Proof.Machine.execFlashDetection id0 id1 id2 s
  | .flashReadyTimeout => Sys2Proof.Machine.execFlashReadyTimeout s
  | .startUpScan sectors => Sys2Proof.Machine.execStartUpScan sectors s
  | .storeEraseDone status sector => Sys2Proof.Machine.execStoreEraseDone status sector s
  | .storeEraseTimeout => Sys2Proof.Machine.execStoreEraseTimeout s
  | .pageProgramDone status sector => Sys2Proof.Machine.execPageProgramDone status sector s
  | .pageProgramTimeout => Sys2Proof.Machine.execPageProgramTimeout s
  | .verify sector => Sys2Proof.Machine.execVerify sector s
  | .recallRead sector => Sys2Proof.Machine.execRecallRead sector s
  | .recallReadyTimeout => Sys2Proof.Machine.execRecallReadyTimeout s
  | .apply => Sys2Proof.Machine.execApply s
  | .slotEraseDone status sector => Sys2Proof.Machine.execSlotEraseDone status sector s
  | .slotEraseTimeout => Sys2Proof.Machine.execSlotEraseTimeout s
  | .resetEnd => Sys2Proof.Machine.execResetEnd s
  | .flashReportsReady => Sys2Proof.Machine.execFlashReportsReady s

end Sys2Proof.Machine
end

