-- ==== Sys2Proof/Machine/Step.lean ====
section
/-! DEFINITION. One step of the block: the command at the front of its queue, or a tick of the time base. -/

namespace Sys2Proof.Machine

/-- A step with nothing waiting: the free-running time base counts one microsecond (00_scope, "Time"; log 2). Nothing is put out. -/
def State.tick (s : State) : State := { s.begin with clock := { s.clock with now := s.clock.now + 1 } }

/-- One step: the command at the front of the queue is taken off it and carried out; with an empty queue the time base ticks. -/
def step (s : State) : Host.Outcome State Fault Refusal :=
  match s.pending with
  | [] => .next s.tick
  | c :: rest => exec c { s with pending := rest }

/-- `s` with the command that a table word spells at the front of its queue; no word spells one (log 1), and `s` is then unchanged. -/
def State.withFetchWord (s : State) (nbits w : Nat) : State :=
  match decodeTableWord nbits w with
  | some c => { s with pending := c :: s.pending }
  | none => s

end Sys2Proof.Machine
end

