-- ==== Sys2Proof/Safety.lean ====
section
/-! DEFINITION. What a claim about a run is stated in: the invariants of the manual, the part of the table that only application
events change, and which block answers which request row. -/

namespace Sys2Proof.Machine

/-- The attention line follows its causes (R166, R167). -/
def State.attnFollows (s : State) : Prop := s.link.attn = s.attnLevel

/-- A request is held only behind a request in hand (R159). -/
def State.heldBehind (s : State) : Prop := s.link.held.isSome → s.link.inHand.isSome

/-- Both frame buffers hold only paints inside the screen with palette indices below 16 (R99 to R102). -/
def State.buffersInScreen (s : State) : Prop := s.composer.buf0.wf = true ∧ s.composer.buf1.wf = true

/-- No key is at the same time in the change set and in the retired set (R11). -/
def State.setsDisjoint (s : State) : Prop := ∀ k, k ∈ s.table.changeSet → k ∉ s.table.retired

/-- At most one of the two banks is in a state. -/
def Banks.atMostOne (b : Banks) (st : BankState) : Prop := ¬ (b.a.state = st ∧ b.b.state = st)

/-- The bank table and the Run Controller agree (R80): at most one bank FILLING, HELD and SHOWN each, an in-flight state exactly when
a bank is FILLING, OFFLINE exactly while the port is OFFLINE (R79), and with run_state STOP the Run Controller STOPPED or OFFLINE and no
bank FILLING (R86). -/
def State.banksAgree (s : State) : Prop :=
  s.run.banks.atMostOne .filling ∧ s.run.banks.atMostOne .held ∧ s.run.banks.atMostOne .shown
    ∧ (s.table.acquire.acqState.inFlight = true ↔ (s.run.banks.find .filling).isSome)
    ∧ (s.table.system.captureOnline = true ↔ s.table.acquire.acqState ≠ .offline)
    ∧ (s.table.acquire.runState = .stop →
        (s.table.acquire.acqState = .stopped ∨ s.table.acquire.acqState = .offline) ∧ s.run.banks.find .filling = none)

/-- The Planner's three sets are those computed from the table, and the DERIVED fields of ACQUIRE are the plan's (R65, R66, R72). -/
def State.plannerAgrees (s : State) : Prop :=
  s.planner = plannerOf s.table ∧ writeDerived (planOf s.table) s.table = s.table

/-- A safe state: all of the invariants above. -/
def State.safe (s : State) : Prop :=
  s.attnFollows ∧ s.heldBehind ∧ s.buffersInScreen ∧ s.setsDisjoint ∧ s.banksAgree ∧ s.plannerAgrees

/-- A view whose records hold colours of the palette and text rows of the screen, as their ranges have it (R25, R41). -/
def View.drawable (v : View) : Prop :=
  (∀ c ∈ v.channels, c.colour < 16) ∧ ∀ a ∈ v.annotations, a.2.colour < 16 ∧ a.2.row < 37

/-- The table without its STATUS fields: what application events and COLLECT alone change (R2, R3). -/
def Table.settings (t : Table) : Table :=
  { t with
    acquire := { t.acquire with acqState := .offline, trigStatus := .waiting, acqCount := 0 }
    system := { t.system with storePresent := false, storeState := .absent, captureOnline := false } }

/-- The table that an application event leaves, before any status update its notifications bring (R4 stages 4 to 7). -/
def eventTable (owner : Owner) (d : Draft) (t : Table) : Table :=
  let p := d.planned t
  let altered := alteredRefs t p
  if altered.isEmpty && d.created.isEmpty && d.retired.isEmpty then t
  else dropIntents owner altered (stampEvent altered p)

/-- How a request row is answered: the request kind, the sub-action of INTENT and FAULTS, and the block that answers (R162 to R165). -/
structure RequestRow where
  req   : Req
  sub   : Option Byte
  block : List Byte → State → State × Reply

/-- The request rows. -/
def requestRow : Instr → Option RequestRow
  | .identify => some ⟨.identify, none, identifyRequest⟩
  | .lookup => some ⟨.lookup, none, lookupRequest⟩
  | .amend => some ⟨.amend, none, amendRequest⟩
  | .create => some ⟨.create, none, createRequest⟩
  | .retire => some ⟨.retire, none, retireRequest⟩
  | .collect => some ⟨.collect, none, collectRequest⟩
  | .intentAccept => some ⟨.intent, some 0, intentAcceptRequest⟩
  | .intentDrop => some ⟨.intent, some 1, intentDropRequest⟩
  | .defaults => some ⟨.defaults, none, defaultsRequest⟩
  | .force => some ⟨.force, none, forceRequest⟩
  | .store => some ⟨.store, none, storeRequest⟩
  | .recall => some ⟨.recall, none, recallRequest⟩
  | .erase => some ⟨.erase, none, eraseRequest⟩
  | .directory => some ⟨.directory, none, directoryRequest⟩
  | .storageStatus => some ⟨.storageStatus, none, storageStatusRequest⟩
  | .protect => some ⟨.protect, none, protectRequest⟩
  | .faultsRead => some ⟨.faults, some 0, faultsReadRequest⟩
  | .faultsClear => some ⟨.faults, some 1, faultsClearRequest⟩
  | .faultsSetup => some ⟨.faults, some 2, faultsSetupRequest⟩
  | .powerOnReset _ | .deviceReset _ | .writePeriod _ | .readPeriod _ | .heldRequestTaken | .keyScan _ _ | .pressAction _
  | .repeatTargetExpiry _ | .knobSample _ _ | .detent _ | .push _ | .lampPwmPeriod _ | .errorBlinkPhase _
  | .flashClockPhase | .ownerRunEvent | .ownerFaultEvent | .ack _ | .reduceData _ | .hello _ | .prefilled _
  | .triggered _ | .complete _ | .faultNotice _ | .portFailure | .queryRetry | .captureLate | .autoTimerExpiry
  | .frameStart | .frameEnd | .verticalBlank | .backlightPwmPeriod | .flashDetection _ _ _ | .flashReadyTimeout
  | .startUpScan _ | .storeEraseDone _ _ | .storeEraseTimeout | .pageProgramDone _ _ | .pageProgramTimeout | .verify _
  | .recallRead _ | .recallReadyTimeout | .apply | .slotEraseDone _ _ | .slotEraseTimeout | .resetEnd
  | .flashReportsReady => none

/-- A request row's frame: its kind byte, and its body after the sub-action where it has one. -/
def RequestRow.frame (r : RequestRow) (body : List Byte) : Frame :=
  { kind := r.req.byte, body := r.sub.toList ++ body }

/-! ## Words for statements about one step -/

/-- The parts of the state. -/
inductive Part where
  | table | inbox | scanner | lamps | planner | run | port | composer | engine | link | faults | clock | out
  deriving DecidableEq, Repr

/-- Two states agree but for the parts named; whether a reset is asserted and what is pending are the same in both. -/
def State.sameBut (parts : List Part) (s t : State) : Prop :=
  t.inReset = s.inReset ∧ t.pending = s.pending
    ∧ (.table ∉ parts → t.table = s.table) ∧ (.inbox ∉ parts → t.inbox = s.inbox)
    ∧ (.scanner ∉ parts → t.scanner = s.scanner) ∧ (.lamps ∉ parts → t.lamps = s.lamps)
    ∧ (.planner ∉ parts → t.planner = s.planner) ∧ (.run ∉ parts → t.run = s.run)
    ∧ (.port ∉ parts → t.port = s.port) ∧ (.composer ∉ parts → t.composer = s.composer)
    ∧ (.engine ∉ parts → t.engine = s.engine)
    ∧ (.link ∉ parts → t.link = { s.link with attn := t.attnLevel })
    ∧ (.faults ∉ parts → t.faults = s.faults) ∧ (.clock ∉ parts → t.clock = s.clock)
    ∧ (.out ∉ parts → t.out = noOutputs)

/-- One report of a class with a detail and nothing else in the fault table (R169): status set, one more in the count up to 255, the
detail replaced, and first_fault named where it was NONE. -/
def Faults.reported (c : FaultClass) (d : Option FaultDetail) (f g : Faults) : Prop :=
  (∀ e, f.entries[c.index]? = some e →
      g.entries[c.index]? = some { e with status := true, count := min (e.count + 1) 255, detail := d })
    ∧ (∀ k, k ≠ c.index → g.entries[k]? = f.entries[k]?)
    ∧ g.first = f.first.or (some c)

/-- The class has STOP severity (R169). -/
def Faults.stops (c : FaultClass) (f : Faults) : Prop := ∃ e, f.entries[c.index]? = some e ∧ e.severity = .stop

/-- What a queue of the Run Controller becomes at the port as `s` has it (R93, R94): a free ONLINE port sends its head at once, with
its answer deadline 2,000 us later; otherwise the whole queue waits. -/
def State.queued (q : List RcRequest) (s t : State) : Prop :=
  match q with
  | h :: rest =>
    if s.table.system.captureOnline = true ∧ s.port.outstanding = none then
      t.run.queue = rest ∧ t.port.outstanding = some (.run h, after t.clock.now 2000)
        ∧ t.out.capture = [.request (.run h)]
    else t.run.queue = q ∧ t.port.outstanding = s.port.outstanding ∧ t.out.capture = []
  | [] => t.run.queue = []

/-- An arm made from a state with banks `b` and a queue `q` (R82): the first FREE bank is FILLING with the descriptor of the Planner's
sets, its ARM is put at the tail, the force origin is NONE, the state ARMING and trig_status WAITING; with no bank FREE the state is
WAIT_BANK. -/
def State.armed (b : Banks) (q : List RcRequest) (s t : State) : Prop :=
  match b.find .free with
  | some x => t.run.banks.get x = { state := .filling, armed := false, desc := some (descriptorOf s.planner s.table) }
      ∧ t.run.banks.get x.other = b.get x.other
      ∧ t.run.queue = q ++ [.arm x s.planner.plan s.planner.front s.planner.trig] ∧ t.run.forceOrigin = .none
      ∧ t.table = { s.table with acquire := { s.table.acquire with acqState := .arming, trigStatus := .waiting } }
  | none => t.run.banks = b ∧ t.run.queue = q
      ∧ t.table = { s.table with acquire := { s.table.acquire with acqState := .waitBank } }

/-- The Run Controller after a FORCE, and its answer, by its state (R87). -/
def State.forced (code : ReplyCode) (s t : State) : Prop :=
  let same := t.run.forcePending = s.run.forcePending ∧ t.run.forceOrigin = s.run.forceOrigin ∧ t.run.autoTimer = s.run.autoTimer
  match s.table.acquire.acqState with
  | .stopped | .offline => code = .notArmed ∧ same
  | .triggered => code = .doneNoEffect ∧ same
  | .arming | .waitBank => code = (if s.run.forcePending then .doneNoEffect else .done) ∧ t.run.forcePending = true
      ∧ t.run.forceOrigin = s.run.forceOrigin ∧ t.run.autoTimer = s.run.autoTimer
  | .ready =>
    if s.run.forceOrigin = .none then
      ∀ x, s.run.banks.find .filling = some x → code = .done ∧ t.run.autoTimer = none ∧ t.run.forceOrigin = .user
        ∧ t.run.forcePending = s.run.forcePending ∧ State.queued (s.run.queue ++ [.force x]) s t
    else code = .doneNoEffect ∧ same

/-- The error blink has started on a control's home lamp, unless that lamp has FAILED (R63). -/
def State.blinked (c : Control) (s t : State) : Prop :=
  ∀ l, s.lamps.entries[homeLamp c]? = some l → t.lamps.entries[homeLamp c]? =
    some (if l.state = .failed then l else
      { l with state := .blinking (.cycles 3), lit := true, phaseEnd := some (after t.clock.now 75000) })

/-- No error blink has started or restarted (R63): every lamp that runs one in `t` ran it in `s`, in the same phase. -/
def State.noBlinkStarted (s t : State) : Prop :=
  ∀ (j : Nat) (l' : Lamp) (n : Nat), t.lamps.entries[j]? = some l' → l'.state = .blinking (.cycles n) →
    ∃ l, s.lamps.entries[j]? = some l ∧ l.state = l'.state ∧ l.lit = l'.lit ∧ l.phaseEnd = l'.phaseEnd

/-- The bound state a lamp's evaluation gives it as a state (R61). -/
def Lamp.follows (l l' : Lamp) (b : BoundState) : Prop :=
  l'.bound = b
    ∧ ((l.state = .failed ∨ ∃ n, l.state = .blinking (.cycles n)) → l'.state = l.state)
    ∧ (l.state ≠ .failed → (∀ n, l.state ≠ .blinking (.cycles n)) →
        l'.state = match b with
          | .off => .off
          | .on => .on
          | .flash => .blinking .continuous)

/-- The request in hand of a live link, with nothing held behind it. -/
def State.asks (f : Frame) (s : State) : Prop := s.inReset = false ∧ s.link.inHand = some f ∧ s.link.held = none

/-- The response in the buffer of `t` is the frame of a kind and an answer, and no request is in hand or held any more (R159, R160). -/
def State.answered (kind : Byte) (r : Reply) (t : State) : Prop :=
  t.link.inHand = none ∧ t.link.held = none ∧ t.link.response = responseFrame kind r

/-- A bank takes notices: it is FILLING, its ARM is acknowledged, and the Run Controller is not OFFLINE (R83). -/
def State.takesNotices (x : Bank) (s : State) : Prop :=
  (s.run.banks.get x).state = .filling ∧ (s.run.banks.get x).armed = true ∧ s.table.acquire.acqState ≠ .offline

/-- A storage operation has ended with a result (R145): the engine is IDLE with nothing in hand, and the last-result record is replaced,
unread from then on unless it is a start-up recall that ended DONE. -/
def State.ended (o : OpInHand) (r : OpOutcome) (s t : State) : Prop :=
  t.table.system.storeState = .idle ∧ t.engine.op = none ∧ t.engine.phase = none ∧ t.engine.page = none
    ∧ t.engine.result = { op := some o.op, slot := some o.slot, outcome := r
                          unread := s.engine.result.unread || decide (o.op ≠ .powerOn) || decide (r ≠ .done) }

/-- A STORE or ERASE has ended FAILED (R149, R152): the slot's entry is set, STORE_FAIL is reported, the result is recorded. -/
def State.endedFailed (o : OpInHand) (r : Reason) (entry : SlotEntry) (s t : State) : Prop :=
  s.ended o (.failed r) t ∧ t.engine.directory = s.engine.directory.set o.slot entry
    ∧ Faults.reported .storeFail (some (.storeFail o.slot r)) s.faults t.faults

/-- DEFAULTS taken on a table (R43): BUSY while scanning, or while busy with slot 31 VALID; a recall of slot 31 with every category when
IDLE and VALID; otherwise the factory defaults at once, DONE exactly when they altered a stamped field or retired a record. -/
def State.defaulted (code : ReplyCode) (t0 : Table) (s t : State) : Prop :=
  let defaultsNow := code = (if alteredRefs t0 (factoryDraft t0) = [] ∧ t0.dynamicKeys = [] then .doneNoEffect else .done)
    ∧ t.table.settings = (eventTable .defaults (factoryDraft t0) t0).settings ∧ t.engine = s.engine
  match s.table.system.storeState, s.engine.slotValid 31 with
  | .scanning, _ | .storing, true | .recalling, true | .erasing, true =>
    code = .busy ∧ t.table.settings = s.table.settings ∧ t.engine = s.engine
  | .idle, true => code = .started ∧ t.table.system.storeState = .recalling ∧ t.table.settings = t0.settings
      ∧ t.engine.op = some { op := .defaults, slot := 31, mask := .all } ∧ t.engine.phase = some .read
  | .absent, _ | .idle, false | .storing, false | .recalling, false | .erasing, false => defaultsNow

/-- An operation with its first flash operation (R144, R149): issued with its timeout, or held back behind a status read with 2,000 ms
while the flash may still be busy. -/
def State.flashStarted (op : FlashOp) (limit : Option Nat) (s t : State) : Prop :=
  if s.engine.flashBusy = true then
    t.engine.waitReady = true ∧ t.engine.deadline = some (after s.clock.now 2000000) ∧ t.out.flash = [.status]
  else t.engine.waitReady = false ∧ t.engine.deadline = limit.map (after s.clock.now) ∧ t.out.flash = [op]

/-- The BACK buffer (R102). -/
def Composer.back (c : Composer) : FrameBuffer := if c.front1 then c.buf0 else c.buf1

/-- A value of a sort that the link's encoding can carry (12_formats); an argument's sort is another field's, and is left out. -/
def Value.fits : FieldSort → Value → Prop
  | .number, .num n => -2 ^ 63 ≤ n ∧ n < 2 ^ 63
  | .enumerated m, .enum p => p < m ∧ p < 256
  | .truth, .truth _ => True
  | .text, .text s => s.length ≤ 32 ∧ s.all printable = true
  | .text, .absent => True
  | .optNumber, .num n => -2 ^ 63 ≤ n ∧ n < 2 ^ 63
  | .optNumber, .absent => True
  | .reference, .ref r => r.field.cls = r.key.cls ∧ r.key.inst < 256
  | .reference, .absent => True
  | .edges, .edges l => l.length = 12 ∧ ∀ e ∈ l, e < 256
  | .keySet, .keys l => l.length < 256 ∧ ∀ e ∈ l, e < 256
  | _, _ => False

/-- A message that the capture controller can send (12_formats). -/
def CaptureMsg.fits : CaptureMsg → Prop
  | .reduceData a b c d => a < 65536 ∧ b < 65536 ∧ c < 65536 ∧ d < 65536
  | .prefilled n | .triggered n _ | .complete n => n < 256
  | .ack | .hello | .fault _ => True

/-- The bytes of a request frame (R158). -/
def requestBytes (f : Frame) : List Byte :=
  let covered := f.kind :: (bytesBE 2 f.body.length ++ f.body)
  (0x5C : Byte) :: (covered ++ crc16Bytes covered)

/-- The number a message names a bank by (12_formats). -/
def Bank.number : Bank → Nat
  | .a => 0
  | .b => 1

/-- A row that ends a reset or begins one. -/
def resetRow : Instr → Bool
  | .powerOnReset _ | .deviceReset _ | .resetEnd => true
  | .writePeriod _ | .readPeriod _ | .heldRequestTaken | .identify | .lookup | .amend | .create | .retire | .collect
  | .intentAccept | .intentDrop | .defaults | .force | .store | .recall | .erase | .directory | .storageStatus | .protect
  | .faultsRead | .faultsClear | .faultsSetup | .keyScan _ _ | .pressAction _ | .repeatTargetExpiry _ | .knobSample _ _
  | .detent _ | .push _ | .lampPwmPeriod _ | .errorBlinkPhase _ | .flashClockPhase | .ownerRunEvent | .ownerFaultEvent
  | .ack _ | .reduceData _ | .hello _ | .prefilled _ | .triggered _ | .complete _ | .faultNotice _ | .portFailure
  | .queryRetry | .captureLate | .autoTimerExpiry | .frameStart | .frameEnd | .verticalBlank | .backlightPwmPeriod
  | .flashDetection _ _ _ | .flashReadyTimeout | .startUpScan _ | .storeEraseDone _ _ | .storeEraseTimeout
  | .pageProgramDone _ _ | .pageProgramTimeout | .verify _ | .recallRead _ | .recallReadyTimeout | .apply
  | .slotEraseDone _ _ | .slotEraseTimeout | .flashReportsReady => false

end Sys2Proof.Machine
end

