-- ==== Sys2Proof/Certificates/Slice0/Obligations.lean ====
section
/-! DEFINITION. The statements for the provers. -/

section

open Sys2Proof Sys2Proof.Machine

/-! ## Steps, the queue and resets as a whole -/

/-- With a command at the front of the queue, a step takes it off and is that command's effect on the state with the rest waiting. -/
def Obligations.StepRunsFrontCommand : Prop :=
  ∀ (c : Instr) (rest : List Instr) (s : State), s.pending = c :: rest → step s = exec c { s with pending := rest }

/-- With nothing waiting, a step is one microsecond of the free-running time base and nothing else (00_scope, "Time"; log 2). -/
def Obligations.EmptyQueueTicks : Prop :=
  ∀ s : State, s.pending = [] →
    step s = .next { s with out := noOutputs, clock := { s.clock with now := s.clock.now + 1 } }

/-- Every command whose operands its pins or its device can produce runs to a next state, and the commands that wait behind it stay as
they are; any other stops with malformedCommand (log 36). -/
def Obligations.CommandsCompleteAndKeepTheQueue : Prop :=
  (∀ (c : Instr) (s : State), c.wellFormed = true → ∃ t : State, exec c s = .next t ∧ t.pending = s.pending)
    ∧ (∀ (c : Instr) (s : State), c.wellFormed = false → exec c s = .fault .malformedCommand)

/-- While a reset is asserted, a command that is no reset row changes nothing, and ATTN is released (R167; log 5). -/
def Obligations.AssertedResetHoldsCommandsOff : Prop :=
  ∀ (c : Instr) (s : State), s.inReset = true → resetRow c = false → c.wellFormed = true →
    exec c s = .next { s with out := noOutputs, link := { s.link with attn := false } }

/-- Every step leaves ATTN at the level its three causes give it, and a request held only behind one in hand (R159, R166, R167). -/
def Obligations.EveryStepKeepsLinkInvariants : Prop :=
  ∀ s t : State, s.attnFollows ∧ s.heldBehind → step s = .next t → t.attnFollows ∧ t.heldBehind

/-- Every step keeps both frame buffers inside the screen with palette indices below 16 (R99 to R102). -/
def Obligations.EveryStepKeepsBuffersInScreen : Prop :=
  ∀ s t : State, s.buffersInScreen → step s = .next t → t.buffersInScreen

/-- Every step keeps the change set and the retired set without a common key (R11). -/
def Obligations.EveryStepKeepsSetsDisjoint : Prop :=
  ∀ s t : State, s.setsDisjoint → step s = .next t → t.setsDisjoint

/-- Every step keeps the bank table, the Run Controller and the port in agreement (R79, R80), with no acquisition while run_state is STOP
(R86), and keeps the Planner's three sets those computed from the table and the DERIVED fields those of its plan (R65 to R77). -/
def Obligations.EveryStepKeepsBanksAgree : Prop :=
  (∀ s t : State, s.banksAgree → step s = .next t → t.banksAgree)
    ∧ (∀ s t : State, s.plannerAgrees → step s = .next t → t.plannerAgrees)

/-- The state after reset satisfies all of these invariants. -/
def Obligations.ResetStateIsSafe : Prop := State.reset.safe

/-! ## Encodings -/

/-- Every message the capture controller can send is read from its bytes as itself, and a request frame of up to 1,018 bytes of body passes
the four checks of R158 and is read as itself (12_formats). -/
def Obligations.MessagesAndFramesRoundTrip : Prop :=
  (∀ m : CaptureMsg, m.fits → readMessage m.bytes = some m)
    ∧ (∀ f : Frame, f.body.length ≤ 1018 → checkFrame (requestBytes f) = .inr f)

/-- A value in the encoding of its field's sort is read as itself, with what follows it left; so is an argument, absent or present with a
value of its target's sort where that is no argument in its turn (12_formats, R175; a chain of arguments is log 29). -/
def Obligations.FieldValuesRoundTrip : Prop :=
  (∀ (t : Table) (r : Ref) (v : Value) (rest : List Byte) (fuel : Nat) (target : Option Ref),
    v.fits r.field.sort → readValue t fuel r.field.sort target (encodeValue t v r ++ rest) = .good v rest)
    ∧ (∀ (t : Table) (r q : Ref) (v : Value) (rest : List Byte) (fuel : Nat), r.field.sort = .argument → t.argTarget r = some q →
        v.fits q.field.sort →
        readValue t (fuel + 1) r.field.sort (some q) (encodeValue t (.present v) r ++ rest) = .good (.present v) rest)
    ∧ (∀ (t : Table) (r : Ref) (rest : List Byte) (fuel : Nat) (target : Option Ref), r.field.sort = .argument →
        readValue t (fuel + 1) r.field.sort target (encodeValue t .absent r ++ rest) = .good .absent rest)

/-! ## Application events -/

/-- Stages 5 and 6 of an application event (R4, R5, R11, R12): the counter advances once when a record is altered or created, every
such record takes it as its stamp and is marked, a retired one loses its stamp and is marked retired, and every other keeps its stamp
and marks; an event that alters, creates and retires nothing leaves the whole part as it was. Stages 4 and 8 (R66, R67): a PLAN field
altered has all three sets of the Planner computed and handed to the Run Controller as a re-plan or run-state change, a LIVE field alone
the trigger codes as a trigger update, and any other event leaves the Planner, the Run Controller and the port alone. -/
def Obligations.EventsStampAndMark : Prop :=
  ∀ (owner : Owner) (d : Draft) (s : State), d.table.counter = s.table.counter → d.table.stamps = s.table.stamps →
    d.table.changeSet = s.table.changeSet → d.table.retired = s.table.retired →
    let altered := alteredRefs s.table (d.planned s.table)
    let e := eventTable owner d s.table
    let touched := fun k => k ∈ d.created ∨ ∃ r ∈ altered, r.key = k
    (s.commit owner d).table.settings = e.settings
      ∧ (altered = [] → d.created = [] → d.retired = [] → s.commit owner d = s)
      ∧ ((∃ k, touched k) → e.counter = nextStamp s.table.counter)
      ∧ ((∀ k, ¬ touched k) → e.counter = s.table.counter)
      ∧ (∀ k, touched k → e.stampOf k = nextStamp s.table.counter ∧ k ∈ e.changeSet ∧ k ∉ e.retired)
      ∧ (∀ k, ¬ touched k → k ∈ d.retired → findKey k e.stamps = none ∧ k ∉ e.changeSet ∧ k ∈ e.retired)
      ∧ (∀ k, ¬ touched k → k ∉ d.retired → findKey k e.stamps = findKey k s.table.stamps
          ∧ (k ∈ e.changeSet ↔ k ∈ s.table.changeSet) ∧ (k ∈ e.retired ↔ k ∈ s.table.retired))
      ∧ (let before := fun (u : State) (p : Planner) => u.table = e ∧ u.planner = p ∧ u.run = s.run ∧ u.port = s.port
           ∧ u.clock = s.clock ∧ u.out = s.out
         (planAltered altered = true → ∃ u, before u (plannerOf e) ∧ s.commit owner d = u.handover.pump)
          ∧ (planAltered altered = false → liveAltered altered = true →
              ∃ u, before u { s.planner with trig := trigCodesOf e } ∧ s.commit owner d = (u.triggerUpdate s.table.trigger.mode).pump)
          ∧ (planAltered altered = false → liveAltered altered = false →
              (s.commit owner d).planner = s.planner ∧ (s.commit owner d).run = s.run ∧ (s.commit owner d).port = s.port
                ∧ (s.commit owner d).out = s.out))

/-! ## Resets -/

/-- POWER_ON_RESET puts every block in its starting state for the build the strap selects; the lamp and backlight on-times in force
before the first periods are the model's reading (log 38) (R14, R19, R30, R36, R37, R42, R46, R49, R53,
R58 to R62, R65, R79, R80, R98, R102, R103, R115, R144, R145, R153, R168, R174). A 2-channel build has the same default bindings, and the
lamps of its missing channels are dark. -/
def Obligations.PowerOnResetGivesStartingState : Prop :=
  ∀ (chsel : Bool) (s : State), ∃ t : State, exec (.powerOnReset chsel) s = .next t ∧ t.pending = s.pending
    ∧ t.inReset = true ∧ t.link.attn = false
    ∧ t.table.system = { buildChannels := if chsel then 4 else 2, storePresent := false, storeState := .scanning
                         captureOnline := false }
    ∧ t.table.channels.length = (if chsel then 4 else 2)
    ∧ t.table.channels.map (·.display) = (if chsel then [.on, .off, .off, .off] else [.on, .off])
    ∧ t.table.channels.map (·.colour) = (if chsel then [2, 3, 4, 5] else [2, 3])
    ∧ (∀ c ∈ t.table.channels, c.probe = 10 ∧ c.scale = 1000000 ∧ c.offset = 0 ∧ c.fine = false ∧ c.guard = 1
        ∧ c.coupling = .dc ∧ c.bandwidth = .full ∧ c.invert = false ∧ c.label = none)
    ∧ t.table.timebase = { scale := 1000000, position := 0, length := 10000, guard := 1 }
    ∧ t.table.trigger = { source := .channel .ch1, slope := .rise, level := some 0, coupling := .dc, mode := .auto
                          holdoff := 20, guard := 1 }
    ∧ t.table.acquire = { runState := .run, acqMode := .sample, guard := 1, basePs := 500, intervalPs := 1000, lengthEff := 10000
                          preCount := 5000, delayCount := 0, acqState := .offline, trigStatus := .waiting, acqCount := 0 }
    ∧ t.table.display = { graticule := .full, draw := .vector, backlight := 80, lampCoarse := 160, lampFine := 8, readouts := .on
                          guard := 0 }
    ∧ t.table.panel = { authority := 2, localLockout := false, focus := none, accel := true, debounceMs := 8
                        knobEdges := List.replicate 12 4, hostKeys := [] }
    ∧ t.table.menu = { title := none, soft := List.replicate 7 none, highlight := 0 }
    ∧ t.table.keybinds =
        (let key (a : KeyAction) (target : Option Ref) (arg : Option Value) : Keybind := ⟨a, target, arg⟩
         [1, 2, 3, 4].map (fun n => key .toggle (some ⟨⟨.channel, n⟩, .chDisplay⟩) none)
          ++ [key .runToggle none none, key .setValue (some ⟨acquireKey, .acRunState⟩) (some (.enum 2)), key .force none none,
              key .defaults none none, key .cycle (some ⟨triggerKey, .trMode⟩) none, key .cycle (some ⟨triggerKey, .trSlope⟩) none,
              key .cycle (some ⟨triggerKey, .trSource⟩) none, key .cycle (some ⟨acquireKey, .acAcqMode⟩) none,
              key .cycle (some ⟨timebaseKey, .tbLength⟩) none, key .cycle (some ⟨displayKey, .diDraw⟩) none,
              key .cycle (some ⟨displayKey, .diGraticule⟩) none, key .returnLocal none none]
          ++ List.replicate 14 (key .host none none)
          ++ [1, 2, 3, 4].map (fun n => key .cycle (some ⟨⟨.channel, n⟩, .chCoupling⟩) none)
          ++ List.replicate 6 (key .host none none))
    ∧ t.table.lampbinds =
        (let lamp (k : RecKey) (f : Field) (v : Value) (m : LampMode) : Lampbind := ⟨some ⟨k, f⟩, some v, m, true⟩
         [1, 2, 3, 4].map (fun n => lamp ⟨.channel, n⟩ .chDisplay (.enum 0) .onEqual)
          ++ [lamp acquireKey .acRunState (.enum 1) .onEqual, lamp acquireKey .acRunState (.enum 0) .onEqual,
              lamp acquireKey .acRunState (.enum 2) .onEqual, lamp acquireKey .acTrigStatus (.enum 1) .onEqual,
              lamp triggerKey .trMode (.enum 0) .onEqual, lamp panelKey .paAuthority (.num 2) .onNotEqual]
          ++ [1, 2, 3, 4].map (fun n => lamp ⟨.channel, n⟩ .chFine (.truth true) .onEqual)
          ++ [lamp acquireKey .acAcqMode (.enum 1) .onEqual, ⟨none, none, .onEqual, false⟩]
          ++ [1, 2, 3, 4, 5, 6, 7].map (fun (n : Nat) => lamp menuKey .meHighlight (.num n) .onEqual)
          ++ [lamp systemKey .syStoreState (.enum 2) .onNotEqual])
    ∧ t.table.counter = 1 ∧ t.table.changeSet = t.table.keys ∧ t.table.changeSet.length = (if chsel then 75 else 73)
    ∧ t.table.retired = [] ∧ t.table.intents = []
    ∧ (∀ k ∈ t.table.keys, t.table.stampOf k = 1) ∧ t.table.dynamicKeys = []
    ∧ t.table.cursors = List.replicate 4 none ∧ t.table.measurements = List.replicate 8 none
    ∧ t.table.annotations = List.replicate 8 none
    ∧ t.planner =
        { plan := { chans := [.ch1], counted := 1, mode := .sample, base := 500, cap := 10000, decim := 2, interval := 1000
                    length := 10000, pre := 5000, delay := 0, autoMs := 51 }
          front := [{ chan := .ch1, divided := false, gain := 250, offsetCode := 32768, coupling := .dc, bandwidth := .full }]
          trig := { source := .channel .ch1, slope := .rise, comparator := some 2048, coupling := .dc, holdoffTicks := 5
                    mode := .auto } }
    ∧ t.inbox = { actions := [], ownerRun := 0, ownerFault := 0 }
    ∧ t.scanner.keys = List.replicate 40 { state := .blocked, count := 0, repeatAt := none }
    ∧ t.scanner.pushes = List.replicate 12 { state := .blocked, count := 0, repeatAt := none }
    ∧ t.scanner.knobs = List.replicate 12 { levels := none, quarter := 0, lastDir := none, recent := [] }
    ∧ (t.lamps.entries.zipIdx.filter fun p => p.1.state == .on).map (·.2) = [0, 4, 8, 23]
    ∧ t.lamps.entries.length = 24 ∧ (∀ l ∈ t.lamps.entries, (l.state = .on ∧ l.bound = .on ∨ l.state = .off ∧ l.bound = .off)
        ∧ l.opens = 0 ∧ l.phaseEnd = none)
    ∧ t.lamps.flashLit = true ∧ t.lamps.onTime = 2568
    ∧ t.run.banks.a = { state := .free, armed := false, desc := none } ∧ t.run.banks.b = { state := .free, armed := false, desc := none }
    ∧ t.run.queue = [] ∧ t.run.autoTimer = none ∧ t.run.forcePending = false ∧ t.run.forceOrigin = .none
    ∧ t.port.outstanding = none ∧ t.port.waiting = none
    ∧ t.composer.state = .idle ∧ t.composer.recompose = true ∧ t.composer.front1 = false ∧ t.composer.buf0 = []
    ∧ t.composer.buf1 = [] ∧ t.composer.snapshot = none ∧ t.composer.backlightOn = 3200
    ∧ t.engine.op = none ∧ t.engine.phase = none ∧ t.engine.directory = [] ∧ t.engine.image = []
    ∧ t.engine.result = { op := none, slot := none, outcome := .none, unread := false } ∧ t.engine.protect = false
    ∧ t.link.inHand = none ∧ t.link.held = none ∧ t.link.response = []
    ∧ t.faults.entries.map (·.severity) = [.note, .note, .note, .stop, .stop, .note, .note, .note]
    ∧ (∀ e ∈ t.faults.entries, e.status = false ∧ e.count = 0 ∧ e.detail = none ∧ e.masked = false) ∧ t.faults.first = none

/-- DEVICE_RESET gives the starting state too, but keeps the statuses, counts and details of the fault table, first_fault and the
protect latch (R19, R20, R153, R174); the masks and severities return to their defaults. -/
def Obligations.DeviceResetKeepsFaultsAndLatch : Prop :=
  ∀ (chsel : Bool) (s : State), s.faults.entries.length = 8 → ∃ t : State, exec (.deviceReset chsel) s = .next t
    ∧ (let n := if chsel then 4 else 2
       t.table = (State.start n).table ∧ t.inbox = (State.start n).inbox ∧ t.scanner = (State.start n).scanner
         ∧ t.lamps = (State.start n).lamps ∧ t.planner = (State.start n).planner ∧ t.run = (State.start n).run
         ∧ t.port = (State.start n).port ∧ t.composer = (State.start n).composer ∧ t.link = (State.start n).link
         ∧ t.engine = { (State.start n).engine with protect := s.engine.protect })
    ∧ t.inReset = true ∧ t.pending = s.pending
    ∧ t.faults.first = s.faults.first ∧ t.faults.entries.length = 8
    ∧ (∀ (k : Nat) (e : FaultEntry), s.faults.entries[k]? = some e → t.faults.entries[k]? =
        some { e with masked := false
                      severity := if k = FaultClass.captureTimeout.index ∨ k = FaultClass.captureReported.index then .stop else .note })

/-- RESET_END after a reset (R97, R103, R139, R167): QUERY is sent and its repetition and CAPTURE_LATE fall due 500,000 us later, the
flash's status is read with 2,000 ms to report ready, the first frame starts, and ATTN takes its causes' level. -/
def Obligations.ResetEndStartsThePart : Prop :=
  ∀ s : State, s.inReset = true → s.composer.state = .idle → s.composer.recompose = true →
    s.run.banks.find .held = none → s.run.banks.find .shown = none →
    ∃ t : State, exec .resetEnd s = .next t ∧ t.inReset = false ∧ t.pending = s.pending ∧ t.table = s.table ∧ t.run = s.run
      ∧ t.clock.now = s.clock.now
      ∧ t.out = { miso := [], capture := [.query], flash := [.status] }
      ∧ t.port = { s.port with queryAt := some (after s.clock.now 500000), lateAt := some (after s.clock.now 500000) }
      ∧ t.engine = { s.engine with deadline := some (after s.clock.now 2000000) }
      ∧ t.composer.state = .composing ∧ t.composer.recompose = false
      ∧ t.composer.snapshot = some (snapshotOf s.table s.run.banks)
      ∧ t.link = { s.link with attn := s.attentionCause }

/-! ## The Setting Link -/

/-- A frame that is taken, by WRITE_PERIOD with no request in hand or by HELD_REQUEST_TAKEN, empties the response buffer and becomes the
request in hand, or is answered at once: FRAME_ERROR with a report of LINK_FRAME, UNKNOWN_REQUEST, or BAD_VALUE for a sub-action outside its
set (R158, R159, R175). A frame behind a request in hand is held, and behind a held one discarded and reported. -/
def Obligations.FramesTakenHeldOrDiscarded : Prop :=
  ∀ (bytes : List Byte) (s : State), s.inReset = false → bytes ≠ [] →
    (∀ c : Instr, (c = .writePeriod bytes ∧ s.link.inHand = none ∧ s.link.held = none ∧ c.wellFormed = true)
        ∨ (c = .heldRequestTaken ∧ s.link.inHand = none ∧ s.link.held = some bytes) →
      ∃ t : State, exec c s = .next t ∧ t.link.held = none
        ∧ (∀ f r, checkFrame bytes = .inr f → Req.ofByte f.kind = some r → badSubAction r f.body = false →
            t.link.inHand = some f ∧ t.link.response = [] ∧ s.sameBut [.link, .out] t)
        ∧ (∀ f, checkFrame bytes = .inr f → Req.ofByte f.kind = none →
            t.answered f.kind (bare .unknownRequest) ∧ s.sameBut [.link, .out] t)
        ∧ (∀ f r, checkFrame bytes = .inr f → Req.ofByte f.kind = some r → badSubAction r f.body = true →
            t.answered f.kind (bare .badValue) ∧ s.sameBut [.link, .out] t)
        ∧ (∀ cause, checkFrame bytes = .inl cause →
            t.answered (bytes.getD 1 0) (bare .frameError) ∧ s.sameBut [.link, .faults, .inbox, .out] t
              ∧ Faults.reported .linkFrame (some (.frame cause)) s.faults t.faults))
    ∧ (∀ f, (Instr.writePeriod bytes).wellFormed = true → s.link.inHand = some f → s.link.held = none →
        ∃ t : State, exec (.writePeriod bytes) s = .next t ∧ s.sameBut [.link, .out] t
          ∧ t.link = { s.link with held := some bytes, attn := t.attnLevel })
    ∧ (∀ f h, (Instr.writePeriod bytes).wellFormed = true → s.link.inHand = some f → s.link.held = some h →
        ∃ t : State, exec (.writePeriod bytes) s = .next t ∧ s.sameBut [.faults, .inbox, .out] t
          ∧ Faults.reported .linkFrame (some (.frame .discarded)) s.faults t.faults)

/-- READ_PERIOD sends the response in the buffer from its start byte and 00h after it, 00h alone when the buffer is empty, and changes
nothing else (R160; log 21). -/
def Obligations.ReadPeriodSendsTheBuffer : Prop :=
  ∀ (n : Nat) (s : State), s.inReset = false → ∃ t : State, exec (.readPeriod n) s = .next t ∧ s.sameBut [.out] t
    ∧ t.out.capture = [] ∧ t.out.flash = [] ∧ t.out.miso.length = n
    ∧ ∀ k, k < n → t.out.miso[k]? = some (s.link.response.getD k 0)

/-- Every request row answers the request in hand of its kind and sub-action with its block's answer, ends it, and takes a held request
in the same step, which empties the buffer again (R159, R160). With no such request in hand it changes nothing (log 6). -/
def Obligations.RequestRowsAnswerTheRequestInHand : Prop :=
  ∀ (c : Instr) (row : RequestRow) (s : State), requestRow c = some row → s.inReset = false →
    (∀ body, s.asks (row.frame body) →
      ∃ t : State, exec c s = .next t ∧ t.answered row.req.byte (row.block body s.begin).2
        ∧ t = { (row.block body s.begin).1 with link := t.link } ∧ t.link.attn = t.attnLevel)
    ∧ (∀ body held f r, s.link.inHand = some (row.frame body) → s.link.held = some held → checkFrame held = .inr f →
        Req.ofByte f.kind = some r → badSubAction r f.body = false →
        ∃ t : State, exec c s = .next t ∧ t.link = { inHand := some f, held := none, response := [], attn := t.attnLevel }
          ∧ t = { (row.block body s.begin).1 with link := t.link })
    ∧ ((∀ body, s.link.inHand ≠ some (row.frame body)) →
        exec c s = .next { s with out := noOutputs, link := { s.link with attn := s.attentionCause } })

/-- A request that is refused changes nothing but the link (R1, R7, R9, R146). FORCE and an accepted intent are not among these rows:
their refusal follows an effect. -/
def Obligations.RefusedRequestsChangeNothing : Prop :=
  ∀ (c : Instr) (row : RequestRow) (body : List Byte) (s : State), requestRow c = some row → c ≠ .force → c ≠ .intentAccept →
    s.asks (row.frame body) → (row.block body s.begin).2.code ∈ ReplyCode.refusals →
    ∃ t : State, exec c s = .next t ∧ t.answered row.req.byte (row.block body s.begin).2 ∧ s.sameBut [.link] t

/-- IDENTIFY is answered DONE with the codes, the build and whether a flash was found; LOOKUP of a whole record with its stamp and every
field in field order, STATUS fields and guards included. Neither changes anything else (R162, 12_formats). -/
def Obligations.IdentifyAndLookupAnswer : Prop :=
  ∀ s : State,
    (s.asks ⟨0x01, []⟩ → ∃ t : State, exec .identify s = .next t ∧ s.sameBut [.link] t
      ∧ t.answered 0x01 { code := .done, body := [0x4B, 0x56, 0x04, 0x28, 0x01, byte s.table.system.buildChannels,
                                                  if s.table.system.storePresent then 1 else 0] })
    ∧ (∀ k : RecKey, s.table.has k = true → k.inst ∈ k.cls.instances →
        s.asks ⟨0x02, [byte k.cls.number, byte k.inst, 0]⟩ →
        ∃ t : State, exec .lookup s = .next t ∧ s.sameBut [.link] t
          ∧ t.answered 0x02 { code := .done
                              body := stampBytes (s.table.stampOf k) ++ k.cls.fields.flatMap (fieldAnswer s.table k) })

/-- An AMEND that passes the checks is one event of owner link on its record, whose answer carries the stamp it leaves; one whose
expected stamp differs is refused STALE with the stamp held and changes nothing (R7, R163). The order of the dependents in the answer is
the model's choice (log 15); what body is read, by `readAmend`, holds those of logs 14 and 54. -/
def Obligations.AmendIsOneEventOrStale : Prop :=
  ∀ (s : State) (body : List Byte) (b : AmendBody) (k : RecKey), s.asks ⟨0x03, body⟩ → readAmend s.table body = .inr b →
    checkRecord s.table b.cls b.inst = .inr k →
    ((b.stamp = none ∨ b.stamp = some (s.table.stampOf k)) → itemsRefused s.table k b.items b.stop = none →
      ∃ t : State, exec .amend s = .next t
        ∧ t.table.settings = (eventTable .link (Draft.of (applyRecord s.table k b.items.values).1) s.table).settings
        ∧ t.answered 0x03 (eventReply s.table (applyRecord s.table k b.items.values).1 k
            (applyRecord s.table k b.items.values).2 (b.items.values.map (·.1)) (t.table.stampOf k))
        ∧ s.sameBut [.table, .scanner, .lamps, .planner, .run, .port, .composer, .link, .out] t)
    ∧ (∀ x, b.stamp = some x → x ≠ s.table.stampOf k →
        ∃ t : State, exec .amend s = .next t ∧ s.sameBut [.link] t
          ∧ t.answered 0x03 { code := .stale, body := stampBytes (s.table.stampOf k) })

/-- An AMEND of DISPLAY.backlight holds the number clamped to 0-100 and changes no other setting of DISPLAY; a number already held
leaves the counter and DISPLAY's stamp as they were, another advances the counter and stamps DISPLAY with it (R5, R7, R35). -/
def Obligations.AmendClampsTheBacklight : Prop :=
  ∀ (s : State) (n : Int), -2 ^ 63 ≤ n → n < 2 ^ 63 →
    s.asks ⟨0x03, [5, 1, 0, 1, 3] ++ numberBytes n⟩ →
    ∃ t : State, exec .amend s = .next t
      ∧ t.table.display = { s.table.display with backlight := (clampTo 0 100 n).toNat }
      ∧ ((s.table.display.backlight : Int) = clampTo 0 100 n → t.table = s.table)
      ∧ ((s.table.display.backlight : Int) ≠ clampTo 0 100 n →
          t.table.counter = nextStamp s.table.counter ∧ t.table.stampOf displayKey = nextStamp s.table.counter
            ∧ displayKey ∈ t.table.changeSet)

/-- A CREATE that passes its checks is one event of owner link with the lowest free instance, answered DONE with that instance and the new
stamp; with no fields named the record takes the creation defaults (R9, R39 to R41, R163). That the requested fields' outcomes are measured
against those defaults is the model's reading (log 16). -/
def Obligations.CreateMakesTheRecord : Prop :=
  ∀ (s : State) (c : Cls) (i : Nat) (count : Byte) (rest : List Byte), c.dynamic = true → roomFor s.table c = .inr i →
    s.table.cursors.length = 4 → s.table.measurements.length = 8 → s.table.annotations.length = 8 →
    s.asks ⟨0x04, byte c.number :: count :: rest⟩ →
    let items := readRequestItems s.table c none count.toNat rest
    items.2.readable = true → itemsRefused s.table ⟨c, 1⟩ items.1 items.2 = none →
    let a := applyRecord (s.table.addRecord ⟨c, i⟩) ⟨c, i⟩ items.1.values
    ∃ t : State, exec .create s = .next t
      ∧ t.table.settings = (eventTable .link { table := a.1, created := [⟨c, i⟩], retired := [] } s.table).settings
      ∧ t.table.has ⟨c, i⟩ = true ∧ t.table.counter = nextStamp s.table.counter
      ∧ t.table.stampOf ⟨c, i⟩ = nextStamp s.table.counter ∧ ⟨c, i⟩ ∈ t.table.changeSet ∧ ⟨c, i⟩ ∉ t.table.retired
      ∧ t.answered 0x04 { code := .done
                          body := byte i :: (stampBytes (nextStamp s.table.counter)
                            ++ requestedBytes (s.table.addRecord ⟨c, i⟩) a.1 ⟨c, i⟩ a.2 (items.1.values.map (·.1))) }
      ∧ (count = 0 → t.table.cursors = (s.table.addRecord ⟨c, i⟩).cursors
          ∧ t.table.measurements = (s.table.addRecord ⟨c, i⟩).measurements
          ∧ t.table.annotations = (s.table.addRecord ⟨c, i⟩).annotations)

/-- RETIRE of a dynamic record is answered DONE: the record is gone, its key leaves the change set and enters the retired set, its
intent is dropped, and only a focus on it advances the counter, as a change of PANEL (R10, R163). -/
def Obligations.RetireTakesTheRecordOut : Prop :=
  ∀ (s : State) (k : RecKey), k.cls.dynamic = true → k.inst ∈ k.cls.instances → s.table.has k = true →
    s.asks ⟨0x05, keyBytes k⟩ →
    ∃ t : State, exec .retire s = .next t ∧ t.answered 0x05 (bare .done) ∧ t.table.has k = false
      ∧ k ∉ t.table.changeSet ∧ k ∈ t.table.retired ∧ findKey k t.table.intents = none ∧ findKey k t.table.stamps = none
      ∧ ((∀ r, s.table.panel.focus = some r → r.key ≠ k) →
          t.table.panel = s.table.panel ∧ t.table.counter = s.table.counter)
      ∧ (∀ r, s.table.panel.focus = some r → r.key = k →
          t.table.panel = { s.table.panel with focus := none } ∧ t.table.counter = nextStamp s.table.counter
            ∧ t.table.stampOf panelKey = nextStamp s.table.counter ∧ panelKey ∈ t.table.changeSet)
      ∧ t.composer.recompose = true

/-- COLLECT is answered DONE with the four lists and empties the change set, the retired set and PANEL.host_keys, with no stamp and no
change of the counter; the pending intents stay, and ATTN follows at once (R13, R164, R166). -/
def Obligations.CollectEmptiesTheLists : Prop :=
  ∀ s : State, s.asks ⟨0x06, []⟩ → ∃ t : State, exec .collect s = .next t ∧ s.sameBut [.table, .link] t
    ∧ t.table = { s.table with changeSet := [], retired := [], panel := { s.table.panel with hostKeys := [] } }
    ∧ t.answered 0x06 { code := .done
                        body := byte s.table.changeSet.length
                            :: (s.table.changeSet.flatMap fun k => keyBytes k ++ stampBytes (s.table.stampOf k))
                          ++ byte s.table.retired.length :: s.table.retired.flatMap keyBytes
                          ++ byte s.table.intents.length :: (s.table.intents.flatMap fun p => intentBytes s.table p.1 p.2)
                          ++ byte s.table.panel.hostKeys.length :: s.table.panel.hostKeys.map byte }
    ∧ t.link.attn = (!s.table.intents.isEmpty || s.engine.result.unread || s.faults.attention)

/-- INTENT DROP removes a record's intent and is answered DONE. INTENT ACCEPT removes it and performs its action as one event of owner
panel on the values as they stand; an accepted FORCE is handed to the Run Controller and an accepted DEFAULTS to R43's action, whose
answers are the responses; a BUSY puts the intent back (R17, R18, R164). The order of the dependents in the answer, the outcome of several
detents and a value the table would refuse are the model's choices (logs 15, 17 and 19). Either is refused NO_RECORD or NOT_BUILT by R1,
and NO_INTENT for a record without an intent, and then changes nothing but the link. -/
def Obligations.IntentsAreDroppedOrPerformed : Prop :=
  (∀ (s : State) (k : RecKey) (i : Intent), k.inst ∈ k.cls.instances → s.table.has k = true → findKey k s.table.intents = some i →
    let t0 : Table := { s.table with intents := dropKey k s.table.intents }
    (s.asks ⟨0x07, 1 :: keyBytes k⟩ →
      ∃ t : State, exec .intentDrop s = .next t ∧ s.sameBut [.table, .link] t ∧ t.table = t0 ∧ t.answered 0x07 (bare .done))
    ∧ (s.asks ⟨0x07, 0 :: keyBytes k⟩ → i.kind ≠ .key .force → i.kind ≠ .key .defaults →
        ∃ t : State, exec .intentAccept s = .next t
          ∧ t.table.settings = (eventTable .panel (Draft.of (intentWrite t0 k i).1) t0).settings
          ∧ t.answered 0x07 (eventReply t0 (intentWrite t0 k i).1 k (intentWrite t0 k i).2 [i.field] (t.table.stampOf k)))
    ∧ (s.asks ⟨0x07, 0 :: keyBytes k⟩ → i.kind = .key .force →
        ∃ t : State, exec .intentAccept s = .next t ∧ t.table = t0
          ∧ t.answered 0x07 (bare (match s.table.acquire.acqState with
              | .stopped | .offline => .notArmed
              | .triggered => .doneNoEffect
              | .arming | .waitBank => if s.run.forcePending then .doneNoEffect else .done
              | .ready => if s.run.forceOrigin = .none ∧ (s.run.banks.find .filling).isSome then .done else .doneNoEffect))
          ∧ ∃ code, t.answered 0x07 (bare code) ∧ State.forced code s t)
    ∧ (s.asks ⟨0x07, 0 :: keyBytes k⟩ → i.kind = .key .defaults →
        ∃ t code, exec .intentAccept s = .next t ∧ t.answered 0x07 (bare code) ∧ State.defaulted code t0 s t
          ∧ (code = .busy → s.sameBut [.link] t) ∧ (code ≠ .busy → findKey k t.table.intents = none)))
    ∧ (∀ (s : State) (c : Instr) (sub : Byte), c = .intentAccept ∧ sub = 0 ∨ c = .intentDrop ∧ sub = 1 →
        let refused := fun code => ∃ t : State, exec c s = .next t ∧ s.sameBut [.link] t ∧ t.answered 0x07 (bare code)
        (∀ cls inst : Byte, Cls.ofNumber cls.toNat = none → s.asks ⟨0x07, [sub, cls, inst]⟩ → refused .noRecord)
        ∧ (∀ (cls : Cls) (inst : Byte), inst.toNat ∉ cls.instances → s.asks ⟨0x07, [sub, byte cls.number, inst]⟩ → refused .noRecord)
        ∧ (∀ k : RecKey, k.inst ∈ k.cls.instances → s.table.has k = false → s.asks ⟨0x07, sub :: keyBytes k⟩ →
            refused (if k.cls = .channel then .notBuilt else .noRecord))
        ∧ (∀ k : RecKey, k.inst ∈ k.cls.instances → s.table.has k = true → findKey k s.table.intents = none →
            s.asks ⟨0x07, sub :: keyBytes k⟩ → refused .noIntent))

/-- DEFAULTS by the engine's state and slot 31 (R43): BUSY while scanning, or while busy with slot 31 VALID; a recall of slot 31 with
every category when IDLE and VALID; otherwise the factory defaults at once, in one event of owner defaults, answered DONE exactly when it
altered a stamped field or retired a record. -/
def Obligations.DefaultsByEngineState : Prop :=
  ∀ s : State, s.asks ⟨0x08, []⟩ →
    let busy := s.table.system.storeState = .storing ∨ s.table.system.storeState = .recalling ∨ s.table.system.storeState = .erasing
    (s.table.system.storeState = .scanning ∨ (busy ∧ s.engine.slotValid 31 = true) →
      ∃ t : State, exec .defaults s = .next t ∧ s.sameBut [.link] t ∧ t.answered 0x08 (bare .busy))
    ∧ (s.table.system.storeState = .idle → s.engine.slotValid 31 = true →
        ∃ t : State, exec .defaults s = .next t ∧ t.answered 0x08 (bare .started) ∧ t.table.system.storeState = .recalling
          ∧ t.engine.op = some { op := .defaults, slot := 31, mask := .all } ∧ t.engine.phase = some .read
          ∧ State.flashStarted (.read 126976) none s t ∧ t.table.settings = s.table.settings)
    ∧ (s.table.system.storeState = .absent ∨ ((s.table.system.storeState = .idle ∨ busy) ∧ s.engine.slotValid 31 = false) →
        ∃ t : State, exec .defaults s = .next t
          ∧ t.table.settings = (eventTable .defaults (factoryDraft s.table) s.table).settings
          ∧ t.engine = s.engine
          ∧ (alteredRefs s.table (factoryDraft s.table) ≠ [] ∨ s.table.dynamicKeys ≠ [] → t.answered 0x08 (bare .done))
          ∧ (alteredRefs s.table (factoryDraft s.table) = [] → s.table.dynamicKeys = [] →
              t.answered 0x08 (bare .doneNoEffect) ∧ s.sameBut [.link] t))

/-- FORCE by the Run Controller's state, with its answer (R87): NOT_ARMED in STOPPED and OFFLINE, DONE_NO_EFFECT in TRIGGERED and in READY
with a FORCE issued, and in each of these force-pending, force origin and auto timer stay; in ARMING and WAIT_BANK force-pending alone is
set; in READY with none issued the timer is cancelled, the origin is USER and FORCE(bank) joins the queue. The banks stay in every state, and
the queue but in the last, where a free port sends the head as after any request (R94). Where the port is not free, and where nothing
waits for it and no FORCE joins the queue, all but the Run Controller and the link stays. -/
def Obligations.ForceByRunControllerState : Prop :=
  ∀ s : State, s.asks ⟨0x09, []⟩ → ∃ (t : State) (code : ReplyCode), exec .force s = .next t ∧ t.answered 0x09 (bare code)
    ∧ State.forced code s t ∧ t.run.banks = s.run.banks
    ∧ s.sameBut [.run, .port, .composer, .link, .out] t
    ∧ (s.table.acquire.acqState ≠ .ready ∨ s.run.forceOrigin ≠ .none →
        State.queued s.run.queue s t
        ∧ (s.run.queue = [] → s.port.waiting = none → t.run.queue = [] ∧ s.sameBut [.run, .link] t))
    ∧ (s.port.waiting = none → t.composer = s.composer ∧ t.port = { s.port with outstanding := t.port.outstanding })
    ∧ (s.table.system.captureOnline = false ∨ s.port.outstanding ≠ none → s.sameBut [.run, .link] t)

/-! ## Storage requests -/

/-- STORE, RECALL and ERASE of an IDLE engine that pass their checks are answered STARTED and begin in the same step: STORE builds its
image from the table as it stands and erases, RECALL reads, ERASE erases; the directory and every setting are left (R146, R147, R150, R152).
The label of a STORE is absent, or a text of up to 32 characters, of which the image takes the first 16 (R146, R175); an empty one is
stored as an absent one is (log 24). -/
def Obligations.StorageOperationsStart : Prop :=
  ∀ (s : State) (slot : Nat), s.table.system.storeState = .idle → slot ≤ 31 →
    (∀ (cats : Byte) (set : Categories) (label : Option Text), chosenCategories cats = some set →
      (∀ x, label = some x → x.length ≤ 32 ∧ x.all printable = true) → ¬ (slot = 31 ∧ s.engine.protect = true) →
      s.asks ⟨0x0A, byte slot :: (optTextBytes label ++ [cats])⟩ →
      ∃ t : State, exec .store s = .next t ∧ t.answered 0x0A (bare .started) ∧ t.table.system.storeState = .storing
        ∧ t.engine.op = some { op := .store, slot := slot, mask := set } ∧ t.engine.phase = some .erase
        ∧ t.engine.image = buildImage s.table set (label.map (·.take 16)) ∧ t.engine.directory = s.engine.directory
        ∧ t.table.settings = s.table.settings
        ∧ State.flashStarted (.sectorErase (4096 * slot)) (some 2000000) s t)
    ∧ (∀ (cats : Byte) (set : Categories), chosenCategories cats = some set → s.engine.slotValid slot = true →
        s.asks ⟨0x0B, [byte slot, cats]⟩ →
        ∃ t : State, exec .recall s = .next t ∧ t.answered 0x0B (bare .started) ∧ t.table.system.storeState = .recalling
          ∧ t.engine.op = some { op := .recall, slot := slot, mask := set } ∧ t.engine.phase = some .read
          ∧ t.engine.directory = s.engine.directory ∧ t.table.settings = s.table.settings
          ∧ State.flashStarted (.read (4096 * slot)) none s t)
    ∧ (¬ (slot = 31 ∧ s.engine.protect = true) → s.asks ⟨0x0C, [byte slot]⟩ →
        ∃ t : State, exec .erase s = .next t ∧ t.answered 0x0C (bare .started) ∧ t.table.system.storeState = .erasing
          ∧ t.engine.op = some { op := .erase, slot := slot, mask := .all } ∧ t.engine.phase = none
          ∧ t.engine.directory = s.engine.directory ∧ t.table.settings = s.table.settings
          ∧ State.flashStarted (.sectorErase (4096 * slot)) (some 2000000) s t)

/-- ERASE, and STORE and RECALL with it, is refused by the first check of R146 that fails, in its order, and a refusal changes no engine
state: NO_STORE, BUSY while scanning, OUT_OF_RANGE, BAD_VALUE for a category set or a label, BUSY, PROTECTED, and for a RECALL the state
of a slot that is not VALID. A label is given by its length byte and characters; that its characters, its length and the category set are
check 4 together is the model's reading (log 24). -/
def Obligations.EraseRefusedInOrder : Prop :=
  ∀ (s : State) (slot : Byte),
    let checked := fun (bad : Bool) (last : ReplyCode) =>
      match s.table.system.storeState with
      | .absent => .noStore
      | .scanning => .busy
      | .idle => if 31 < slot.toNat then .outOfRange else if bad then .badValue else last
      | .storing | .recalling | .erasing => if 31 < slot.toNat then .outOfRange else if bad then .badValue else .busy
    let written : ReplyCode := if slot.toNat = 31 ∧ s.engine.protect then .protectedSlot else .started
    let badSet := fun cats : Byte => cats == 0 || cats.getLsbD 6 || cats.getLsbD 7
    let refused := fun (c : Instr) (kind : Byte) (code : ReplyCode) => code ≠ .started →
      ∃ t : State, exec c s = .next t ∧ s.sameBut [.link] t ∧ t.answered kind (bare code)
    (s.asks ⟨0x0C, [slot]⟩ → refused .erase 0x0C (checked false written))
    ∧ (∀ (n cats : Byte) (chars : List Byte), (n = 0xFF ∧ chars = []) ∨ (n ≠ 0xFF ∧ chars.length = n.toNat) →
        s.asks ⟨0x0A, slot :: n :: (chars ++ [cats])⟩ →
        let badLabel := !chars.all (fun c => decide (0x20 ≤ c.toNat) && decide (c.toNat ≤ 0x7E)) || decide (32 < chars.length)
        refused .store 0x0A (checked (badLabel || badSet cats) written))
    ∧ (∀ cats : Byte, s.asks ⟨0x0B, [slot, cats]⟩ →
        refused .recall 0x0B (checked (badSet cats)
          (match s.engine.directory.getD slot.toNat .empty with
           | .empty => .empty
           | .damaged => .damaged
           | .foreign => .foreign
           | .valid _ _ _ => .started)))

/-- DIRECTORY, STORAGE STATUS and PROTECT (R143, R145, R146, R153): NO_STORE without a flash, BUSY while scanning; otherwise the summaries
held, the engine's report with unread cleared in the same step, and the protect latch set. PROTECT is refused BUSY too, with the latch as
it was, while a STORE or ERASE of slot 31 is in hand. -/
def Obligations.StorageReportsAndLatch : Prop :=
  ∀ s : State,
    (∀ c row code, (c = .directory ∨ c = .storageStatus ∨ c = .protect) → requestRow c = some row →
      (s.table.system.storeState = .absent ∧ code = .noStore ∨ s.table.system.storeState = .scanning ∧ code = .busy) →
      s.asks (row.frame []) → ∃ t : State, exec c s = .next t ∧ s.sameBut [.link] t ∧ t.answered row.req.byte (bare code))
    ∧ (s.table.system.storeState ≠ .absent → s.table.system.storeState ≠ .scanning →
        (s.asks ⟨0x0D, []⟩ → ∃ t : State, exec .directory s = .next t ∧ s.sameBut [.link] t
          ∧ t.answered 0x0D { code := .done, body := s.engine.directory.flatMap SlotEntry.bytes })
        ∧ (s.asks ⟨0x0E, []⟩ → ∃ t : State, exec .storageStatus s = .next t ∧ s.sameBut [.engine, .link] t
          ∧ t.engine = { s.engine with result := { s.engine.result with unread := false } }
          ∧ t.answered 0x0E { code := .done, body := storageStatusBody s })
        ∧ (s.asks ⟨0x0F, []⟩ → (∀ o, s.engine.op = some o → ¬ (o.slot = 31 ∧ (o.op = .store ∨ o.op = .erase))) →
          ∃ t : State, exec .protect s = .next t ∧ s.sameBut [.engine, .link] t ∧ t.engine = { s.engine with protect := true }
          ∧ t.answered 0x0F (bare (if s.engine.protect then .doneNoEffect else .done)))
        ∧ (∀ o, s.asks ⟨0x0F, []⟩ → s.engine.op = some o → o.slot = 31 → o.op = .store ∨ o.op = .erase →
          ∃ t : State, exec .protect s = .next t ∧ s.sameBut [.link] t ∧ t.answered 0x0F (bare .busy)))

/-! ## Faults -/

/-- FAULTS READ is answered DONE with first_fault and the eight classes' status, count, detail, mask and severity in order, and changes
nothing: a READ alone does not release the attention line (R171). -/
def Obligations.FaultsReadChangesNothing : Prop :=
  ∀ s : State, s.asks ⟨0x10, [0]⟩ → ∃ t : State, exec .faultsRead s = .next t ∧ s.sameBut [.link] t
    ∧ t.answered 0x10 { code := .done
                        body := (match s.faults.first with | some c => byte c.index | none => 0xFF)
                          :: s.faults.entries.flatMap fun e =>
                            [if e.status then 1 else 0, byte e.count]
                              ++ (match e.detail with | some d => (1 : Byte) :: d.bytes | none => [0, 0, 0])
                              ++ [if e.masked then 1 else 0, match e.severity with | .note => 0 | .stop => 1] }
    ∧ (s.attnFollows → t.link.attn = s.link.attn)

/-- FAULTS CLEAR clears the status, count and detail of the named classes and keeps masks and severities; first_fault becomes NONE only
when no class is left set; it is DONE when it cleared a set status, and ATTN follows at once (R166, R172). A set is one byte
whose eight bits are the eight classes, so a request can name no unknown class. -/
def Obligations.FaultsClearNamedClasses : Prop :=
  ∀ (s : State) (set : Byte), s.asks ⟨0x10, [1, set]⟩ → ∃ t : State, exec .faultsClear s = .next t ∧ s.sameBut [.faults, .link] t
    ∧ t.faults.entries.length = s.faults.entries.length
    ∧ (∀ (k : Nat) (e : FaultEntry), s.faults.entries[k]? = some e → t.faults.entries[k]? =
        some (if set.getLsbD k then { e with status := false, count := 0, detail := none } else e))
    ∧ t.faults.first = (if t.faults.entries.any (·.status) then s.faults.first else none)
    ∧ ((∃ (k : Nat) (e : FaultEntry), s.faults.entries[k]? = some e ∧ e.status = true ∧ set.getLsbD k = true) → t.answered 0x10 (bare .done))
    ∧ ((∀ (k : Nat) (e : FaultEntry), s.faults.entries[k]? = some e → ¬ (e.status = true ∧ set.getLsbD k = true)) →
        t.answered 0x10 (bare .doneNoEffect))
    ∧ t.link.attn = t.attentionCause

/-- FAULTS SETUP sets the values given for the named classes and keeps the others, changes no status, count, detail or first_fault, is DONE
when it changed a mask or a severity, and moves ATTN in the same step; a value outside its set refuses it whole (R173; with neither value
given it changes nothing: log 35). -/
def Obligations.FaultsSetupNamedClasses : Prop :=
  ∀ (s : State) (set m v : Byte), s.asks ⟨0x10, [2, set, m, v]⟩ → ∃ t : State, exec .faultsSetup s = .next t
    ∧ ((m = 0 ∨ m = 1 ∨ m = 0xFF) → (v = 0 ∨ v = 1 ∨ v = 0xFF) →
        s.sameBut [.faults, .link] t ∧ t.faults.first = s.faults.first
        ∧ t.faults.entries.length = s.faults.entries.length
        ∧ (∀ (k : Nat) (e : FaultEntry), s.faults.entries[k]? = some e → t.faults.entries[k]? =
            some (if set.getLsbD k then
                { e with masked := if m = 0 then false else if m = 1 then true else e.masked
                         severity := if v = 0 then .note else if v = 1 then .stop else e.severity }
              else e))
        ∧ t.answered 0x10 (bare (if t.faults.entries = s.faults.entries then .doneNoEffect else .done))
        ∧ t.link.attn = t.attentionCause)
    ∧ (¬ ((m = 0 ∨ m = 1 ∨ m = 0xFF) ∧ (v = 0 ∨ v = 1 ∨ v = 0xFF)) →
        s.sameBut [.link] t ∧ t.answered 0x10 (bare .badValue))

/-- A FAULT notice taken while ONLINE reports CAPTURE_REPORTED with its code and, at STOP severity, submits the event of owner fault; while
OFFLINE it is ignored. CAPTURE_LATE reports once. QUERY is sent again 500,000 us after the last while OFFLINE (R97, R98, R168 to R170). -/
def Obligations.CaptureTroubleIsReported : Prop :=
  ∀ s : State, s.inReset = false →
    (∀ code : Byte, s.table.system.captureOnline = true →
      ∃ t : State, exec (.faultNotice (CaptureMsg.fault code).bytes) s = .next t ∧ s.sameBut [.faults, .inbox] t
        ∧ Faults.reported .captureReported (some (.code code)) s.faults t.faults
        ∧ (s.faults.stops .captureReported → t.inbox = { s.inbox with ownerFault := s.inbox.ownerFault + 1 })
        ∧ (¬ s.faults.stops .captureReported → t.inbox = s.inbox))
    ∧ (∀ code : Byte, s.table.system.captureOnline = false →
        ∃ t : State, exec (.faultNotice (CaptureMsg.fault code).bytes) s = .next t ∧ s.sameBut [] t)
    ∧ (∀ due, s.port.lateAt = some due →
        ∃ t : State, exec .captureLate s = .next t ∧ s.sameBut [.faults, .inbox, .port, .clock] t
          ∧ t.port = { s.port with lateAt := none } ∧ Faults.reported .captureLate none s.faults t.faults)
    ∧ (s.port.lateAt = none → ∃ t : State, exec .captureLate s = .next t ∧ s.sameBut [] t)
    ∧ (∀ due, s.port.queryAt = some due → s.table.system.captureOnline = false →
        ∃ t : State, exec .queryRetry s = .next t ∧ s.sameBut [.port, .clock, .out] t
          ∧ t.out = { miso := [], capture := [.query], flash := [] }
          ∧ t.port = { s.port with queryAt := some (after t.clock.now 500000) })

/-- A waiting event of owner fault sets run_state STOP, and one of owner run sets STOP when it finds SINGLE and else changes no setting; it
stamps and marks ACQUIRE when it alters it and drops no intent (R4, R86, R170). What such an event, or any that alters a PLAN or LIVE
field, hands to the Run Controller acts by its state: a re-plan or run-state change clears force-pending and the auto timer, then arms,
abandons, waits or stops (R89); an abandon frees a bank whose ARM is queued and closes one whose ARM was sent (R90). That the bank freed
keeps its descriptor is the model's choice (log 39). A trigger update puts
one UPDATE of the FILLING bank in the queue, in place where one waits, and moves the auto timer with the mode (R91). -/
def Obligations.OwnerEventsStopAcquisition : Prop :=
  (∀ (s : State) (n : Nat), s.inReset = false →
    (s.inbox.ownerFault = n + 1 →
      ∃ t : State, exec .ownerFaultEvent s = .next t ∧ t.table.acquire.runState = .stop ∧ t.inbox = { s.inbox with ownerFault := n }
        ∧ t.table.intents = s.table.intents
        ∧ (s.table.acquire.runState = .stop → s.sameBut [.inbox] t)
        ∧ (s.table.acquire.runState ≠ .stop → t.table.counter = nextStamp s.table.counter
            ∧ t.table.stampOf acquireKey = nextStamp s.table.counter ∧ acquireKey ∈ t.table.changeSet))
    ∧ (s.inbox.ownerRun = n + 1 →
        ∃ t : State, exec .ownerRunEvent s = .next t ∧ t.inbox = { s.inbox with ownerRun := n } ∧ t.table.intents = s.table.intents
          ∧ (s.table.acquire.runState = .single → t.table.acquire.runState = .stop
              ∧ t.table.counter = nextStamp s.table.counter ∧ t.table.stampOf acquireKey = nextStamp s.table.counter)
          ∧ (s.table.acquire.runState ≠ .single → s.sameBut [.inbox] t)))
    ∧ (∀ s : State, let t := s.handover
        let stop := s.table.acquire.runState = .stop
        let a := s.table.acquire.acqState
        let left : State := s.abandon
        t.run.forcePending = false ∧ t.run.autoTimer = none
        ∧ (a = .offline ∨ (a = .stopped ∧ stop) ∨ (a = .waitBank ∧ ¬ stop) →
            t.table = s.table ∧ t.run.banks = s.run.banks ∧ t.run.queue = s.run.queue)
        ∧ (a = .waitBank → stop → t.run.banks = s.run.banks ∧ t.run.queue = s.run.queue
            ∧ t.table = { s.table with acquire := { s.table.acquire with acqState := .stopped } })
        ∧ (a = .stopped → ¬ stop → s.armed s.run.banks s.run.queue t)
        ∧ (a.inFlight = true → stop → t.run.banks = left.run.banks ∧ t.run.queue = left.run.queue
            ∧ t.table = { s.table with acquire := { s.table.acquire with acqState := .stopped } })
        ∧ (a.inFlight = true → ¬ stop → s.armed left.run.banks left.run.queue t))
    ∧ (∀ (s : State) (x : Bank), s.run.banks.find .filling = some x →
        let t := s.abandon
        let others := s.run.queue.filter fun q => !(q.isUpdate x || q.isForce x)
        t.table = s.table ∧ t.port = s.port ∧ t.run.banks.get x.other = s.run.banks.get x.other
          ∧ ((∃ p f c, .arm x p f c ∈ s.run.queue) → t.run.banks.get x = { s.run.banks.get x with state := .free, armed := false }
              ∧ t.run.queue = others.filter fun q => !q.isArm x)
          ∧ ((∀ p f c, .arm x p f c ∉ s.run.queue) → t.run.banks.get x = { s.run.banks.get x with state := .closing }
              ∧ t.run.queue = others ++ [.abandon x]))
    ∧ (∀ (s : State) (before : TrigMode), let t := s.triggerUpdate before
        let codes := s.planner.trig
        t.table = s.table ∧ t.run.banks = s.run.banks
          ∧ (s.table.acquire.acqState.inFlight = false → t.run = s.run)
          ∧ (∀ x, s.table.acquire.acqState.inFlight = true → s.run.banks.find .filling = some x →
              ((∀ c, .update x c ∉ s.run.queue) → t.run.queue = s.run.queue ++ [.update x codes])
              ∧ (∀ pre c rest, s.run.queue = pre ++ .update x c :: rest → (∀ d, .update x d ∉ pre) → (∀ d, .update x d ∉ rest) →
                  t.run.queue = pre ++ .update x codes :: rest))
          ∧ (s.table.acquire.acqState = .ready → before = .normal → codes.mode = .auto →
              t.run.autoTimer = some (after s.clock.now (1000 * s.planner.plan.autoMs.toNat)))
          ∧ (s.table.acquire.acqState = .ready → before = .auto → codes.mode = .normal → t.run.autoTimer = none)
          ∧ (s.table.acquire.acqState ≠ .ready ∨ codes.mode = before → t.run.autoTimer = s.run.autoTimer))

/-! ## The front panel -/

/-- A scan outside ghost hold counts, restarts or settles each key by its debounced level, and a key that settles down is PRESSED and submits
its press action, a step key's with its repeat target 500,000 us on; in ghost hold every key keeps its state with count 0 (R44 to R48, R52).
The push switches that are read are debounced the same way, with no ghost hold and no repeat (R58). Each key or switch that settles down
in this scan submits its action once, an inert one none, and nothing else is submitted. -/
def Obligations.KeyScanDebounces : Prop :=
  ∀ (keys : BitVec 40) (pushes : BitVec 12) (s : State), s.inReset = false →
    ∃ t : State, exec (.keyScan keys pushes) s = .next t ∧ s.sameBut [.scanner, .inbox, .clock] t
      ∧ t.clock.scanAt = after t.clock.now 1000
      ∧ (∀ (k : Fin 40) (e : KeyEntry), s.scanner.keys[k.val]? = some e →
          (3 ≤ bitCount keys → t.scanner.keys[k.val]? = some { e with count := 0 })
          ∧ (bitCount keys < 3 → keys.getLsbD k = (e.state != .released) →
              t.scanner.keys[k.val]? = some { e with count := 0 })
          ∧ (bitCount keys < 3 → keys.getLsbD k ≠ (e.state != .released) → e.count + 1 < s.table.panel.debounceMs →
              t.scanner.keys[k.val]? = some { e with count := e.count + 1 })
          ∧ (bitCount keys < 3 → keys.getLsbD k = false → e.state ≠ .released → s.table.panel.debounceMs ≤ e.count + 1 →
              t.scanner.keys[k.val]? = some { state := .released, count := 0, repeatAt := none })
          ∧ (bitCount keys < 3 → keys.getLsbD k = true → e.state = .released → s.table.panel.debounceMs ≤ e.count + 1 →
              ∃ e', t.scanner.keys[k.val]? = some e' ∧ e'.state = .pressed ∧ e'.count = 0
                  ∧ ∀ b, s.table.keybinds[k.val]? = some b → e'.repeatAt =
                      (if (pressAction s.table k b).isSome ∧ (b.action = .stepUp ∨ b.action = .stepDown)
                        then some (after t.clock.now 500000) else e.repeatAt)))
      ∧ (∀ (k : Fin 12) (e : KeyEntry), s.scanner.pushes[k.val]? = some e →
          (knobRead s.table k = false → t.scanner.pushes[k.val]? = some e)
          ∧ (knobRead s.table k = true → pushes.getLsbD k = (e.state != .released) →
              t.scanner.pushes[k.val]? = some { e with count := 0 })
          ∧ (knobRead s.table k = true → pushes.getLsbD k ≠ (e.state != .released) → e.count + 1 < s.table.panel.debounceMs →
              t.scanner.pushes[k.val]? = some { e with count := e.count + 1 })
          ∧ (knobRead s.table k = true → pushes.getLsbD k = false → e.state ≠ .released → s.table.panel.debounceMs ≤ e.count + 1 →
              t.scanner.pushes[k.val]? = some { state := .released, count := 0, repeatAt := none })
          ∧ (knobRead s.table k = true → pushes.getLsbD k = true → e.state = .released → s.table.panel.debounceMs ≤ e.count + 1 →
              t.scanner.pushes[k.val]? = some { e with state := .pressed, count := 0 }))
      ∧ (let settles := fun (down : Bool) (e : KeyEntry) =>
           down = true ∧ e.state = .released ∧ s.table.panel.debounceMs ≤ e.count + 1
         let keySubmits := fun (k : Fin 40) (a : PanelAction) => ∃ e b, s.scanner.keys[k.val]? = some e ∧ bitCount keys < 3
           ∧ settles (keys.getLsbD k.val) e ∧ s.table.keybinds[k.val]? = some b ∧ pressAction s.table k b = some a
         let pushSubmits := fun (k : Fin 12) (a : PanelAction) => ∃ e, s.scanner.pushes[k.val]? = some e ∧ knobRead s.table k = true
           ∧ settles (pushes.getLsbD k.val) e ∧ ¬ (k = 10 ∧ s.table.trigger.source = .line) ∧ a = .push k (pushRef k)
         ∃ new : List PanelAction, t.inbox = { s.inbox with actions := s.inbox.actions ++ new } ∧ new.Nodup
           ∧ ∀ a, a ∈ new ↔ (∃ k, keySubmits k a) ∨ (∃ k, pushSubmits k a))

/-- The table takes the oldest waiting action of a key or knob and, when it admits it, applies it in one event of owner panel with the value
its action asks for (R15, R50, R57, R58); an admitted FORCE is handed to the Run Controller and an admitted DEFAULTS to R43's action, and
a NOT_ARMED or BUSY answer blinks the key's home lamp, any other answer none (R51, R63). Which action a row takes, a SET_VALUE that the
table would refuse from the link, and that a waiting action is admitted on, moves and writes the field and value of its completion or press
are the model's choices (logs 9, 19 and 45), as is that a FOCUS whose target was retired while it waited changes nothing (log 52). -/
def Obligations.AdmittedPanelActionsAreEvents : Prop :=
  ∀ (s : State) (r : Ref) (pre rest : List PanelAction), s.inReset = false → s.table.has r.key = true →
    admitted s.table r = true →
    (∀ key act arg, act ≠ .force → act ≠ .defaults → s.inbox.actions = pre ++ .press key act r arg :: rest →
      pre.all (fun p => !p.isPress key) = true →
      ∃ t : State, exec (.pressAction key) s = .next t ∧ t.inbox = { s.inbox with actions := pre ++ rest }
        ∧ t.table.settings = (eventTable .panel
            (Draft.of (panelWrite s.table r (pressValue s.table (.key key) act r arg)).1) s.table).settings
        ∧ s.sameBut [.table, .inbox, .scanner, .lamps, .planner, .run, .port, .composer, .out] t)
    ∧ (∀ key arg, s.inbox.actions = pre ++ .press key .force r arg :: rest → pre.all (fun p => !p.isPress key) = true →
        ∃ t code, exec (.pressAction key) s = .next t ∧ t.inbox = { s.inbox with actions := pre ++ rest } ∧ t.table = s.table
          ∧ State.forced code s t ∧ (code = .notArmed → s.blinked (.key key) t) ∧ (code ≠ .notArmed → t.lamps = s.lamps))
    ∧ (∀ key arg, s.inbox.actions = pre ++ .press key .defaults r arg :: rest → pre.all (fun p => !p.isPress key) = true →
        ∃ t code, exec (.pressAction key) s = .next t ∧ t.inbox = { s.inbox with actions := pre ++ rest }
          ∧ State.defaulted code s.table s t
          ∧ (code = .busy → s.sameBut [.inbox, .lamps] t ∧ s.blinked (.key key) t)
          ∧ (code ≠ .busy → s.noBlinkStarted t)
          ∧ (code = .doneNoEffect → s.sameBut [.inbox] t))
    ∧ (∀ knob dir mult, s.inbox.actions = pre ++ .detent knob r dir mult :: rest →
        pre.all (fun p => !p.isDetent knob) = true →
        ∃ t : State, exec (.detent knob) s = .next t ∧ t.inbox = { s.inbox with actions := pre ++ rest }
          ∧ t.table.settings = (eventTable .panel
              (Draft.of (panelWrite s.table r (stepValue s.table r (dir == .cw) mult)).1) s.table).settings
          ∧ s.sameBut [.table, .inbox, .scanner, .lamps, .planner, .run, .port, .composer, .out] t)
    ∧ (∀ knob, s.inbox.actions = pre ++ .push knob r :: rest → pre.all (fun p => !p.isPush knob) = true →
        ∃ t : State, exec (.push knob) s = .next t ∧ t.inbox = { s.inbox with actions := pre ++ rest }
          ∧ t.table.settings = (eventTable .panel
              (Draft.of (panelWrite s.table r (pushValue s.table knob)).1) s.table).settings
          ∧ s.sameBut [.table, .inbox, .scanner, .lamps, .planner, .run, .port, .composer, .out] t)

/-- An admitted detent on a channel's offset moves it by floor(scale / 50) times the multiplier, clamped to 20 divisions either way, and no
other setting of the channels (R25, R55, R57). -/
def Obligations.DetentMovesTheOffset : Prop :=
  ∀ (s : State) (n : Nat) (c : Channel) (knob : Fin 12) (dir : Dir) (mult : Nat) (rest : List PanelAction),
    s.inReset = false → 1 ≤ n → n ≤ 4 → s.table.channels[n - 1]? = some c → c.guard ≤ s.table.panel.authority →
    s.inbox.actions = .detent knob ⟨⟨.channel, n⟩, .chOffset⟩ dir mult :: rest →
    ∃ t : State, exec (.detent knob) s = .next t ∧ t.inbox = { s.inbox with actions := rest }
      ∧ t.table.channels = s.table.channels.set (n - 1)
          { c with offset := clampTo (-20 * c.scale) (20 * c.scale)
                      (match dir with
                       | .cw => c.offset + c.scale / 50 * mult
                       | .ccw => c.offset - c.scale / 50 * mult) }

/-- A panel action that authority refuses alters no setting, sets, adds to or keeps an intent, and blinks its control's home lamp three
times unless that lamp has FAILED (R15, R16, R63). The intent is on the record the action names, but for a detent of K11, whose intent
names the field in PANEL.focus when it is refused; with the focus NONE it does nothing. A new SET_VALUE intent holds the argument of the
key's binding when it is set. Which waiting action a row takes, what admission is judged on, and the argument of a key bound anew since its
press are the model's choices (logs 9 and 45). -/
def Obligations.RefusedPanelActionsBecomeIntents : Prop :=
  (∀ (s : State) (r q : Ref) (pre rest : List PanelAction) (c : Instr) (a : PanelAction) (ctl : Control) (kind : ActionKind)
    (up : Bool) (arg : Option Value), s.inReset = false → s.table.has r.key = true → admitted s.table r = false →
    s.inbox.actions = pre ++ a :: rest →
    ((∃ key act held, c = .pressAction key ∧ a = .press key act r held ∧ q = r ∧ ctl = .key key ∧ kind = .key act
        ∧ pre.all (fun p => !p.isPress key) = true
        ∧ ((∃ b, act = .setValue ∧ s.table.keybinds[key.val]? = some b ∧ b.action = .setValue ∧ b.target = some r
              ∧ arg = b.argument)
          ∨ ((∀ b, act = .setValue → s.table.keybinds[key.val]? = some b → b.action = .setValue → b.target ≠ some r) ∧ arg = held)))
      ∨ (∃ knob dir mult, c = .detent knob ∧ a = .detent knob r dir mult ∧ ctl = .knob knob ∧ kind = .detent
        ∧ up = (dir == .cw) ∧ arg = none ∧ pre.all (fun p => !p.isDetent knob) = true
        ∧ (knob ≠ 11 → q = r) ∧ (knob = 11 → s.table.panel.focus = some q))
      ∨ (∃ knob, c = .push knob ∧ a = .push knob r ∧ q = r ∧ ctl = .knob knob ∧ kind = .push ∧ arg = none
        ∧ pre.all (fun p => !p.isPush knob) = true)) →
    ∃ t i, exec c s = .next t ∧ s.sameBut [.table, .inbox, .lamps] t ∧ t.inbox = { s.inbox with actions := pre ++ rest }
      ∧ t.table = { s.table with intents := t.table.intents }
      ∧ findKey q.key t.table.intents = some i ∧ (∀ k, k ≠ q.key → findKey k t.table.intents = findKey k s.table.intents)
      ∧ i.control = ctl ∧ i.kind = kind ∧ i.field = q.field
      ∧ (kind ≠ .detent → (∀ j, findKey q.key s.table.intents = some j →
            j.control = ctl ∧ j.kind = kind ∧ j.field = q.field → i = j))
      ∧ ((∀ j, findKey q.key s.table.intents = some j → ¬ (j.control = ctl ∧ j.kind = kind ∧ j.field = q.field)) → i.arg = arg)
      ∧ (kind = .detent →
          (∀ j, findKey q.key s.table.intents = some j → j.control = ctl ∧ j.kind = kind ∧ j.field = q.field →
            i.total = clampTo (-127) 127 (j.total + if up then 1 else -1))
          ∧ ((∀ j, findKey q.key s.table.intents = some j → ¬ (j.control = ctl ∧ j.kind = kind ∧ j.field = q.field)) →
            i.total = if up then 1 else -1))
      ∧ s.blinked ctl t)
    ∧ (∀ (s : State) (r : Ref) (pre rest : List PanelAction) (dir : Dir) (mult : Nat), s.inReset = false →
        s.table.has r.key = true → admitted s.table r = false → s.table.panel.focus = none →
        s.inbox.actions = pre ++ .detent 11 r dir mult :: rest → pre.all (fun p => !p.isDetent 11) = true →
        ∃ t : State, exec (.detent 11) s = .next t ∧ s.sameBut [.inbox] t ∧ t.inbox = { s.inbox with actions := pre ++ rest })

/-- A held STEP key's repeat target (R52): in ghost hold, or with the level's source LINE, it is set 100,000 us on with no action; with the
target record gone it ends; otherwise the step is submitted anew and the target set 100,000 us on. Admitted, the step moves the field as a
single detent; refused, it leaves or sets the key's intent and restarts the error blink. That the ghost hold of the last scan is the one
that counts, and that it comes before a target record gone, is the model's reading (log 10). -/
def Obligations.RepeatTargetStepsAgain : Prop :=
  ∀ (s : State) (key : Fin 40) (e : KeyEntry) (b : Keybind) (due : Time), s.inReset = false →
    s.scanner.keys[key.val]? = some e → e.repeatAt = some due → e.state = .pressed → s.table.keybinds[key.val]? = some b →
    ∃ t : State, exec (.repeatTargetExpiry key) s = .next t
      ∧ (s.scanner.ghost = true ∨ (targetAbsent s.table b = false ∧ stepsLineLevel s.table b = true) →
          s.sameBut [.scanner, .clock] t
            ∧ t.scanner.keys[key.val]? = some { e with repeatAt := some (after t.clock.now 100000) })
      ∧ (s.scanner.ghost = false → targetAbsent s.table b = true →
          s.sameBut [.scanner, .clock] t ∧ t.scanner.keys[key.val]? = some { e with repeatAt := none })
      ∧ (∀ r up, s.scanner.ghost = false → targetAbsent s.table b = false → stepsLineLevel s.table b = false →
          b.target = some r → b.action = (if up then .stepUp else .stepDown) →
          s.inbox.actions.all (fun p => !p.isPress key) = true →
          t.inbox = s.inbox ∧ t.scanner.keys[key.val]? = some { e with repeatAt := some (after t.clock.now 100000) }
            ∧ (admitted s.table r = true → t.table.settings = (eventTable .panel
                (Draft.of (panelWrite s.table r (stepValue s.table r up 1)).1) s.table).settings)
            ∧ (admitted s.table r = false → s.sameBut [.table, .scanner, .lamps, .clock] t
                ∧ t.table = { s.table with intents := t.table.intents } ∧ s.blinked (.key key) t
                ∧ ∃ i, findKey r.key t.table.intents = some i ∧ i.control = .key key ∧ i.kind = .key b.action ∧ i.field = r.field))

/-- A knob's sample (R53, R54): the first sets the reference and counts nothing; the same levels do nothing; the next pair of the clockwise or
anticlockwise sequence adds or takes one quarter; a double step keeps the count and is reported. In every case the sample becomes the
reference. A count that reaches the knob's edges per detent, either way, returns to 0 and completes a detent: it enters the recent-detent
list, emptied first by a change of direction and never longer than 20, and is handed on with its direction and the multiplier of the
detents younger than 100 ms (R56, R57); with K11 and the focus NONE, or for a level whose source is LINE, it is discarded, and the last
direction stays (log 44). -/
def Obligations.KnobSampleCountsQuarters : Prop :=
  ∀ (a b : BitVec 12) (s : State), s.inReset = false → ∃ t : State, exec (.knobSample a b) s = .next t
    ∧ s.sameBut [.scanner, .inbox, .faults, .clock] t ∧ t.clock.knobAt = after t.clock.now 50
    ∧ ∀ (k : Fin 12) (e : KnobEntry), s.scanner.knobs[k.val]? = some e → knobRead s.table k = true →
        let now := (a.getLsbD k, b.getLsbD k)
        let cw : List ((Bool × Bool) × (Bool × Bool)) :=
          [((false, false), (true, false)), ((true, false), (true, true)), ((true, true), (false, true)),
           ((false, true), (false, false))]
        let edges : Int := (s.table.panel.knobEdges.getD k.val 4 : Nat)
        let waiting := fun u : State => u.inbox.actions.filter fun p => p.isDetent k
        (e.levels = none → t.scanner.knobs[k.val]? = some { e with levels := some now } ∧ waiting t = waiting s)
        ∧ (e.levels = some now → t.scanner.knobs[k.val]? = some e ∧ waiting t = waiting s)
        ∧ (∀ l q, e.levels = some l → ((l, now) ∈ cw ∧ q = e.quarter + 1 ∨ (now, l) ∈ cw ∧ q = e.quarter - 1) →
            (q < edges → -edges < q →
              t.scanner.knobs[k.val]? = some { e with levels := some now, quarter := q } ∧ waiting t = waiting s)
            ∧ (∀ d, (edges ≤ q ∧ d = .cw ∨ q < edges ∧ q ≤ -edges ∧ d = .ccw) →
                let discarded := knobRef s.table k = none ∨ s.table.trigger.source = .line ∧ knobRef s.table k = some levelRef
                let kept := if e.lastDir = none ∨ e.lastDir = some d then e.recent else []
                let recent := (if kept.length < 20 then kept else kept.drop 1) ++ [t.clock.now]
                let young := (recent.filter fun x => decide ((t.clock.now - x).toNat < 100000)).length
                (discarded → t.scanner.knobs[k.val]? = some { e with levels := some now, quarter := 0 } ∧ waiting t = waiting s)
                ∧ (∀ r, ¬ discarded → knobRef s.table k = some r →
                    t.scanner.knobs[k.val]? = some { levels := some now, quarter := 0, lastDir := some d, recent := recent }
                      ∧ waiting t = waiting s ++ [.detent k r d
                          (if s.table.panel.accel = false ∨ young ≤ 4 then 1 else if young ≤ 9 then 5 else 20)])))
        ∧ (∀ l, e.levels = some l → l.1 ≠ now.1 → l.2 ≠ now.2 →
            t.scanner.knobs[k.val]? = some { e with levels := some now } ∧ waiting t = waiting s
              ∧ ∀ f, s.faults.entries[FaultClass.encoderGlitch.index]? = some f →
                ∃ f', t.faults.entries[FaultClass.encoderGlitch.index]? = some f' ∧ f'.status = true)

/-! ## Lamps and the clocks of outputs -/

/-- A PWM period takes the on-time of the two DISPLAY fields from its start, and moves each lamp's open count: 0 without diag or when current
flows, kept when it is not sensed, one more when it reads open, FAILED at 4 with LAMP_OPEN reported (R62, R64). A lamp's evaluation compares
the field its binding names with the binding's value by its mode (R61). An event of any kind, with the status updates that it brings,
evaluates, with the values it leaves, every lamp whose field it alters, whose record it creates or retires, or whose own binding it alters;
the last sets the open count to 0 and ends FAILED (R60, R64). It leaves every other lamp as it was. A changed STATUS field has its lamps evaluated too (R3).
That a lamp counts as lit by its state at the period's start alone is the model's choice (log 51). -/
def Obligations.LampPeriodSensesOpenLamps : Prop :=
  (∀ (opens : BitVec 24) (s : State), s.inReset = false → ∃ t : State, exec (.lampPwmPeriod opens) s = .next t
    ∧ s.sameBut [.lamps, .faults, .inbox, .clock] t ∧ t.clock.pwmAt = after t.clock.now 4096
    ∧ t.lamps.onTime = 16 * s.table.display.lampCoarse + s.table.display.lampFine
    ∧ ∀ (k : Nat) (l : Lamp) (b : Lampbind), k < 24 → s.lamps.entries[k]? = some l → s.table.lampbinds[k]? = some b →
        let sensed := l.driven s.lamps.flashLit = true ∧ 16 ≤ t.lamps.onTime
        (b.diag = false → t.lamps.entries[k]? = some { l with opens := 0 })
        ∧ (b.diag = true → ¬ sensed → t.lamps.entries[k]? = some l)
        ∧ (b.diag = true → sensed → opens.getLsbD k = false → t.lamps.entries[k]? = some { l with opens := 0 })
        ∧ (b.diag = true → sensed → opens.getLsbD k = true → l.opens < 3 →
            t.lamps.entries[k]? = some { l with opens := l.opens + 1 })
        ∧ (b.diag = true → sensed → opens.getLsbD k = true → 3 ≤ l.opens →
            (∃ l', t.lamps.entries[k]? = some l' ∧ l'.state = .failed ∧ l'.phaseEnd = none ∧ l'.bound = l.bound)
              ∧ ∀ f, s.faults.entries[FaultClass.lampOpen.index]? = some f →
                ∃ f', t.faults.entries[FaultClass.lampOpen.index]? = some f' ∧ f'.status = true))
    ∧ (∀ (t : Table) (b : Lampbind),
        (b.target = none → evalLamp t b = .off)
        ∧ (∀ r, b.target = some r → t.has r.key = false → evalLamp t b = .off)
        ∧ (∀ r v, b.target = some r → t.get r = some v → let equal := v = b.value.getD .absent
            (b.mode = .onEqual → evalLamp t b = if equal then .on else .off)
            ∧ (b.mode = .onNotEqual → evalLamp t b = if equal then .off else .on)
            ∧ (b.mode = .blinkEqual → evalLamp t b = if equal then .flash else .off)))
    ∧ (∀ (owner : Owner) (d : Draft) (s : State) (k : Nat) (l : Lamp) (b : Lampbind),
        let altered := alteredRefs s.table (d.planned s.table)
        let e := eventTable owner d s.table
        let t := s.commit owner d
        s.lamps.entries[k]? = some l → e.lampbinds[k]? = some b →
        let rebound := ∃ r ∈ altered, r.key = ⟨.lampbind, k⟩
        let bound := ∃ r, b.target = some r
          ∧ (r ∈ altered ∨ r.key ∈ d.created ∨ r.key ∈ d.retired ∨ t.table.get r ≠ e.get r)
        t.table.lampbinds = e.lampbinds ∧ ∃ l', t.lamps.entries[k]? = some l'
          ∧ (rebound → l.state ≠ .failed → l.follows l' (evalLamp t.table b) ∧ l'.opens = 0)
          ∧ (rebound → l.state = .failed → l'.opens = 0 ∧ l'.phaseEnd = none ∧ l'.bound = evalLamp t.table b
              ∧ l'.state = match evalLamp t.table b with
                | .off => .off
                | .on => .on
                | .flash => .blinking .continuous)
          ∧ (¬ rebound → bound → l.follows l' (evalLamp t.table b) ∧ l'.opens = l.opens)
          ∧ (¬ rebound → ¬ bound → l' = l))
    ∧ (∀ (owner : Owner) (d : Draft) (s : State),
        let altered := alteredRefs s.table (d.planned s.table)
        let a := (s.commit owner d).table.acquire
        (s.commit owner d).table = { eventTable owner d s.table with
            acquire := { (eventTable owner d s.table).acquire with acqState := a.acqState, trigStatus := a.trigStatus } }
          ∧ (planAltered altered = false → (s.commit owner d).table = eventTable owner d s.table))
    ∧ (∀ (s : State) (r : Ref) (write : Table → Table) (k : Nat) (l : Lamp) (b : Lampbind),
        (write s.table).get r ≠ s.table.get r → s.lamps.entries[k]? = some l → (write s.table).lampbinds[k]? = some b →
        let t := s.statusUpdate r write
        t.table = write s.table ∧ t.composer.recompose = true
          ∧ (b.target = some r → ∃ l', t.lamps.entries[k]? = some l' ∧ l.follows l' (evalLamp t.table b) ∧ l'.opens = l.opens)
          ∧ (b.target ≠ some r → t.lamps.entries[k]? = some l))

/-- A phase of an error blink (R63): a lit phase of 75,000 us is followed by a dark one of 75,000 us, the count falls by 1 at the end of each
dark phase, and at 0 the lamp takes its bound state as last recorded. -/
def Obligations.ErrorBlinkRunsItsCycles : Prop :=
  ∀ (s : State) (k : Fin 24) (l : Lamp) (due : Time) (n : Nat), s.inReset = false → s.lamps.entries[k.val]? = some l →
    l.phaseEnd = some due → l.state = .blinking (.cycles n) →
    ∃ t : State, exec (.errorBlinkPhase k) s = .next t ∧ s.sameBut [.lamps, .clock] t
      ∧ (∀ j, j ≠ k.val → t.lamps.entries[j]? = s.lamps.entries[j]?)
      ∧ (l.lit = true → t.lamps.entries[k.val]? = some { l with lit := false, phaseEnd := some (after t.clock.now 75000) })
      ∧ (l.lit = false → 2 ≤ n → t.lamps.entries[k.val]? =
          some { l with state := .blinking (.cycles (n - 1)), lit := true, phaseEnd := some (after t.clock.now 75000) })
      ∧ (l.lit = false → n ≤ 1 → t.lamps.entries[k.val]? =
          some { l with state := match l.bound with
                                 | .off => .off
                                 | .on => .on
                                 | .flash => .blinking .continuous
                        phaseEnd := none })

/-- The flash clock changes halves every 500,000 us, and each backlight period of 4,000 us is on for DISPLAY.backlight x 40 us (R61, R115). -/
def Obligations.FlashClockAndBacklightPeriods : Prop :=
  ∀ s : State, s.inReset = false →
    (∃ t : State, exec .flashClockPhase s = .next t ∧ s.sameBut [.lamps, .clock] t
      ∧ t.lamps = { s.lamps with flashLit := !s.lamps.flashLit } ∧ t.clock.flashAt = after t.clock.now 500000)
    ∧ (∃ t : State, exec .backlightPwmPeriod s = .next t ∧ s.sameBut [.composer, .clock] t
        ∧ t.composer = { s.composer with backlightOn := s.table.display.backlight * 40 }
        ∧ t.clock.backlightAt = after t.clock.now 4000)

/-! ## The Capture Port and the Run Controller -/

/-- An ACK (R81, R95): of an ARM sets the bank's armed mark, of an ABANDON frees its CLOSING bank and in WAIT_BANK arms it, of any other
request changes no bank; with no request of the Run Controller outstanding it is discarded. -/
def Obligations.AckTakenAgainstTheOutstandingRequest : Prop :=
  ∀ s : State, s.inReset = false → ∃ t : State, exec (.ack CaptureMsg.ack.bytes) s = .next t
    ∧ (∀ x p f c due, s.port.outstanding = some (.run (.arm x p f c), due) →
        t.run.banks.get x = { s.run.banks.get x with armed := true }
          ∧ t.run.banks.get x.other = s.run.banks.get x.other ∧ t.table = s.table ∧ State.queued s.run.queue
            { s with port := { s.port with outstanding := none } } t)
    ∧ (∀ x due, s.port.outstanding = some (.run (.abandon x), due) → (s.run.banks.get x).state = .closing →
        (s.table.acquire.acqState ≠ .waitBank → (t.run.banks.get x).state = .free ∧ t.table = s.table
            ∧ t.run.banks.get x.other = s.run.banks.get x.other)
        ∧ (s.table.acquire.acqState = .waitBank → (s.run.banks.get x.other).state ≠ .free →
            (t.run.banks.get x).state = .filling ∧ (t.run.banks.get x).armed = false
              ∧ t.table.acquire.acqState = .arming ∧ t.table.acquire.trigStatus = .waiting
              ∧ t.run.banks.get x.other = s.run.banks.get x.other))
    ∧ (∀ x due, (s.port.outstanding = some (.run (.force x), due) ∨ ∃ c, s.port.outstanding = some (.run (.update x c), due)) →
        t.run.banks = s.run.banks ∧ t.table = s.table
          ∧ State.queued s.run.queue { s with port := { s.port with outstanding := none } } t)
    ∧ ((∀ q due, s.port.outstanding ≠ some (.run q, due)) → s.sameBut [] t)

/-- REDUCE data taken against an outstanding reduction is drawn into the BACK buffer as the column's body, empty columns and ticks; the
FRONT buffer is never written (R95, R102, R119, R122 to R125; a code above 4,095 draws a free value: log 40). With no reduction
outstanding it is discarded. Every code has a row in 0-399, the visible ones as R122 gives it; a code is drawn as it is when the view's
scale and offset are the descriptor's, and a rail code always (R120); a column's sample range holds just the samples of the record whose
time lies in the column (R118); and every paint of a column lies inside the screen, so that drawing it loses none (R122 to R125). -/
def Obligations.ReduceDataIsDrawn : Prop :=
  (∀ (s : State) (first last least greatest : Nat), s.inReset = false → first < 65536 → last < 65536 → least < 65536 →
    greatest < 65536 → ∃ t : State, exec (.reduceData (CaptureMsg.reduceData first last least greatest).bytes) s = .next t
      ∧ t.composer.front = s.composer.front ∧ t.composer.front1 = s.composer.front1 ∧ t.table = s.table
      ∧ t.run.banks = s.run.banks
      ∧ ((∀ q due, s.port.outstanding ≠ some (.reduce q, due)) → s.sameBut [] t)
      ∧ (∀ q due v x d n rest cb ch cd, s.port.outstanding = some (.reduce q, due) → s.composer.snapshot = some v →
          v.shown = some (x, d) → s.composer.trace.asked = some cb → s.composer.trace.todo = n :: rest →
          v.channel n = some ch → (d.chans.find? fun y => y.chan == n) = some cd →
          t.composer.back = s.composer.back.draw (columnPaints v.draw cd ch s.composer.trace cb first last least greatest).1))
    ∧ (∀ c : Int, 0 ≤ rowOfCode c ∧ rowOfCode c ≤ 399 ∧ (3647 < c → rowOfCode c = 0) ∧ (c < 448 → rowOfCode c = 399)
        ∧ (448 ≤ c → c ≤ 3647 → rowOfCode c = 399 - (c - 448) / 8))
    ∧ (∀ (d : ChanDesc) (c : ViewChannel) (code : Nat),
        (0 < c.scale → d.scale = c.scale → d.offset = c.offset → code ≤ 4095 → rescale d c code = code)
        ∧ (code = 0 ∨ code = 4095 → rescale d c code = code)
        ∧ drawnCode d c code = if c.invert = true then 4096 - rescale d c code else rescale d c code)
    ∧ (∀ (v : View) (d : Descriptor) (x : Nat) (k : Int), 0 < d.interval →
        let time := (k + (d.delay - d.pre)) * d.interval
        ((sampleRange v d x).1 ≤ k ∧ k ≤ (sampleRange v d x).2
          ↔ 0 ≤ k ∧ k ≤ d.length - 1 ∧ v.leftEdge + x * v.columnWidth ≤ time ∧ time < v.leftEdge + (x + 1) * v.columnWidth))
    ∧ (∀ (style : DrawStyle) (d : ChanDesc) (c : ViewChannel) (tr : Trace) (cb first last least greatest : Nat) (b : FrameBuffer),
        c.colour < 16 → let p := (columnPaints style d c tr cb first last least greatest).1
        b.draw p = p.reverse ++ b)

/-- HELLO (R97): while OFFLINE the port goes ONLINE and the Run Controller arms the first FREE bank unless run_state is STOP, in which case it
is STOPPED; while ONLINE everything in flight is dropped, the queue and the outstanding request with it, FILLING and CLOSING banks are
freed, HELD and SHOWN banks stay, and the Run Controller starts again the same way: the first bank FREE then is armed and its ARM sent at
once, or with none it waits for a bank. That a bank freed so, by `Banks.drop`, keeps its descriptor is the model's choice (log 39). -/
def Obligations.HelloStartsAfresh : Prop :=
  ∀ s : State, s.inReset = false → ∃ t : State, exec (.hello CaptureMsg.hello.bytes) s = .next t
    ∧ s.sameBut [.table, .lamps, .run, .port, .composer, .out] t
    ∧ t.table.system.captureOnline = true ∧ t.table.settings = s.table.settings
    ∧ (s.table.acquire.runState = .stop → t.table.acquire.acqState = .stopped)
    ∧ (s.table.system.captureOnline = false → t.port.queryAt = none ∧ t.port.lateAt = none)
    ∧ (s.table.system.captureOnline = false → s.port.outstanding = none → s.run.queue = [] →
        s.table.acquire.runState ≠ .stop → ∀ x, s.run.banks.find .free = some x →
        t.table.acquire.acqState = .arming ∧ t.table.acquire.trigStatus = .waiting
          ∧ t.run.banks.get x = { state := .filling, armed := false, desc := some (descriptorOf s.planner s.table) }
          ∧ t.run.banks.get x.other = s.run.banks.get x.other ∧ t.run.queue = [] ∧ t.run.forceOrigin = .none
          ∧ t.out.capture = [.request (.run (.arm x s.planner.plan s.planner.front s.planner.trig))]
          ∧ t.port.outstanding = some (.run (.arm x s.planner.plan s.planner.front s.planner.trig), after s.clock.now 2000))
    ∧ (s.table.system.captureOnline = false → s.table.acquire.runState ≠ .stop → s.run.banks.find .free = none →
        t.table.acquire.acqState = .waitBank ∧ t.run.banks = s.run.banks)
    ∧ (s.table.system.captureOnline = true → t.run.forcePending = false ∧ t.run.forceOrigin = .none
        ∧ t.run.autoTimer = none ∧ t.composer.recompose = true ∧ t.run.queue = [] ∧ t.port.waiting = none
        ∧ (∀ x, (s.run.banks.get x).state = .held ∨ (s.run.banks.get x).state = .shown →
            t.run.banks.get x = s.run.banks.get x)
        ∧ (s.port.hasReduce = true → t.composer.failed = true)
        ∧ (s.table.acquire.runState = .stop → t.port.outstanding = none ∧ t.out.capture = []
            ∧ ∀ x, (s.run.banks.get x).state = .filling ∨ (s.run.banks.get x).state = .closing →
              (t.run.banks.get x).state = .free ∧ (t.run.banks.get x).armed = false)
        ∧ (∀ x, s.table.acquire.runState ≠ .stop → s.run.banks.drop.find .free = some x →
            t.table.acquire.acqState = .arming ∧ t.table.acquire.trigStatus = .waiting
              ∧ t.run.banks.get x = { state := .filling, armed := false, desc := some (descriptorOf s.planner s.table) }
              ∧ t.run.banks.get x.other = s.run.banks.drop.get x.other
              ∧ t.out.capture = [.request (.run (.arm x s.planner.plan s.planner.front s.planner.trig))]
              ∧ t.port.outstanding = some (.run (.arm x s.planner.plan s.planner.front s.planner.trig), after s.clock.now 2000))
        ∧ (s.table.acquire.runState ≠ .stop → s.run.banks.drop.find .free = none →
            t.table.acquire.acqState = .waitBank ∧ t.run.banks = s.run.banks ∧ t.port.outstanding = none ∧ t.out.capture = [])
        ∧ (∀ x, s.run.banks.drop.get x =
            if (s.run.banks.get x).state = .filling ∨ (s.run.banks.get x).state = .closing
              then { s.run.banks.get x with state := .free, armed := false } else s.run.banks.get x))

/-- PREFILLED taken in ARMING enters READY; then a pending force is sent as the bank's FORCE with origin USER, or else, in AUTO mode, the
auto timer starts (R84). -/
def Obligations.PrefilledEntersReady : Prop :=
  ∀ (s : State) (x : Bank), s.inReset = false → s.takesNotices x → s.table.acquire.acqState = .arming →
    ∃ t : State, exec (.prefilled (CaptureMsg.prefilled x.number).bytes) s = .next t
      ∧ t.table = { s.table with acquire := { s.table.acquire with acqState := .ready } } ∧ t.run.banks = s.run.banks
      ∧ (s.run.forcePending = true → t.run.forcePending = false ∧ t.run.forceOrigin = .user
          ∧ State.queued (s.run.queue ++ [.force x]) s t ∧ t.run.autoTimer = s.run.autoTimer)
      ∧ (s.run.forcePending = false → t.run.forcePending = false ∧ t.run.forceOrigin = s.run.forceOrigin
          ∧ State.queued s.run.queue s t
          ∧ t.run.autoTimer = if s.table.trigger.mode = .auto
              then some (after s.clock.now (1000 * s.planner.plan.autoMs.toNat)) else s.run.autoTimer)

/-- TRIGGERED taken in ARMING or READY enters TRIGGERED, cancels the auto timer, clears force-pending, removes the bank's waiting FORCE
and writes trig_status by the cause and the force origin (R85). A PREFILLED for the same bank taken next changes nothing. -/
def Obligations.TriggeredWritesTheStatus : Prop :=
  ∀ (s : State) (x : Bank) (forced : Bool), s.inReset = false → s.takesNotices x →
    (s.table.acquire.acqState = .arming ∨ s.table.acquire.acqState = .ready) →
    ∃ t : State, exec (.triggered (CaptureMsg.triggered x.number forced).bytes) s = .next t
      ∧ t.table = { s.table with acquire := { s.table.acquire with
          acqState := .triggered
          trigStatus := if forced = false then .triggered else if s.run.forceOrigin = .auto then .auto else .forced } }
      ∧ t.run.autoTimer = none ∧ t.run.forcePending = false ∧ t.run.banks = s.run.banks
      ∧ State.queued (s.run.queue.filter fun q => decide (q ≠ .force x)) s t
      ∧ ∃ u : State, exec (.prefilled (CaptureMsg.prefilled x.number).bytes) t = .next u ∧ t.sameBut [] u

/-- COMPLETE taken in flight ends the acquisition: the bank is HELD and a bank already HELD is freed, acq_count adds 1, the auto timer
is cancelled and recompose-needed set; then RUN arms the other bank or waits for it, and SINGLE stops and submits owner run's event (R86). -/
def Obligations.CompleteEndsTheAcquisition : Prop :=
  ∀ (s : State) (x : Bank), s.inReset = false → s.takesNotices x → s.table.acquire.acqState.inFlight = true →
    ∃ t : State, exec (.complete (CaptureMsg.complete x.number).bytes) s = .next t
      ∧ (t.run.banks.get x).state = .held ∧ (t.run.banks.get x).desc = (s.run.banks.get x).desc
      ∧ t.table.acquire.acqCount = s.table.acquire.acqCount + 1 ∧ t.table.settings = s.table.settings
      ∧ t.run.autoTimer = none ∧ t.composer.recompose = true
      ∧ (s.table.acquire.runState = .single →
          t.table.acquire.acqState = .stopped ∧ t.inbox = { s.inbox with ownerRun := s.inbox.ownerRun + 1 }
          ∧ t.table.acquire.trigStatus =
              (if s.table.acquire.acqState = .triggered then s.table.acquire.trigStatus else .triggered)
          ∧ (t.run.banks.get x.other).state =
              (if (s.run.banks.get x.other).state = .held then .free else (s.run.banks.get x.other).state))
      ∧ (s.table.acquire.runState = .run → t.inbox = s.inbox
          ∧ ((s.run.banks.get x.other).state = .held ∨ (s.run.banks.get x.other).state = .free →
              t.table.acquire.acqState = .arming ∧ t.table.acquire.trigStatus = .waiting
                ∧ t.run.banks.get x.other =
                    { state := .filling, armed := false, desc := some (descriptorOf s.planner s.table) })
          ∧ ((s.run.banks.get x.other).state ≠ .held → (s.run.banks.get x.other).state ≠ .free →
              t.table.acquire.acqState = .waitBank ∧ t.run.banks.get x.other = s.run.banks.get x.other))

/-- A PREFILLED, TRIGGERED or COMPLETE whose bank is not FILLING with its armed mark true, that names neither bank, that comes while
OFFLINE, or that is taken in a state the manual gives it no row for, changes nothing (R83). -/
def Obligations.OtherNoticesAreIgnored : Prop :=
  ∀ (s : State) (n : Nat) (forced : Bool), s.inReset = false → n < 256 →
    let untaken := ∀ x, bankOf n = some x → ¬ s.takesNotices x
    (untaken ∨ s.table.acquire.acqState ≠ .arming →
      ∃ t : State, exec (.prefilled (CaptureMsg.prefilled n).bytes) s = .next t ∧ s.sameBut [] t)
    ∧ (untaken ∨ (s.table.acquire.acqState ≠ .arming ∧ s.table.acquire.acqState ≠ .ready) →
        ∃ t : State, exec (.triggered (CaptureMsg.triggered n forced).bytes) s = .next t ∧ s.sameBut [] t)
    ∧ (untaken ∨ s.table.acquire.acqState.inFlight = false →
        ∃ t : State, exec (.complete (CaptureMsg.complete n).bytes) s = .next t ∧ s.sameBut [] t)

/-- A port failure (R96): CAPTURE_TIMEOUT is reported with the kind of the outstanding request, the port and the Run Controller go OFFLINE
with nothing queued or outstanding, FILLING and CLOSING banks become FREE and the others stay, a reduction fails, and QUERY is sent. -/
def Obligations.PortFailureGoesOffline : Prop :=
  ∀ (s : State) (q : PortRequest) (due : Time), s.inReset = false → s.port.outstanding = some (q, due) →
    ∃ t : State, exec .portFailure s = .next t
      ∧ s.sameBut [.faults, .inbox, .table, .lamps, .run, .port, .composer, .clock, .out] t
      ∧ Faults.reported .captureTimeout (some (.request q.kind)) s.faults t.faults
      ∧ (s.faults.stops .captureTimeout → t.inbox = { s.inbox with ownerFault := s.inbox.ownerFault + 1 })
      ∧ t.table = { s.table with acquire := { s.table.acquire with acqState := .offline }
                                 system := { s.table.system with captureOnline := false } }
      ∧ t.port = { s.port with outstanding := none, waiting := none, queryAt := some (after t.clock.now 500000) }
      ∧ t.out = { miso := [], capture := [.query], flash := [] }
      ∧ t.run.queue = [] ∧ t.run.forcePending = false ∧ t.run.forceOrigin = .none ∧ t.run.autoTimer = none
      ∧ (∀ x, ((s.run.banks.get x).state = .filling ∨ (s.run.banks.get x).state = .closing →
            (t.run.banks.get x).state = .free)
          ∧ ((s.run.banks.get x).state = .held ∨ (s.run.banks.get x).state = .shown →
            t.run.banks.get x = s.run.banks.get x))
      ∧ (s.port.hasReduce = true → t.composer.failed = true)

/-- The auto timer expires in READY: the force origin is AUTO, the bank's FORCE is queued and the timer is cleared; trig_status stays (R88). -/
def Obligations.AutoTimerForcesATrigger : Prop :=
  ∀ (s : State) (x : Bank) (due : Time), s.inReset = false → s.table.acquire.acqState = .ready →
    s.run.autoTimer = some due → s.run.banks.find .filling = some x →
    ∃ t : State, exec .autoTimerExpiry s = .next t ∧ t.table = s.table ∧ t.run.banks = s.run.banks
      ∧ t.run.forceOrigin = .auto ∧ t.run.autoTimer = none ∧ State.queued (s.run.queue ++ [.force x]) s t

/-! ## The Composer -/

/-- A frame start clears recompose-needed, takes a HELD bank in place of the SHOWN one, takes the snapshot of the table and the bank table as
they then stand and begins the BACK buffer anew with every paint of the graticule (R107); it comes only in IDLE with recompose-needed set, and the FRONT buffer is untouched (R81,
R102, R103, R105). A take that frees a bank in WAIT_BANK arms it, whose status updates set recompose-needed again after it was cleared; in
every other case the flag stays clear (log 22). -/
def Obligations.FrameStartTakesTheSnapshot : Prop :=
  ∀ s : State, s.inReset = false → ∃ t : State, exec .frameStart s = .next t
    ∧ s.sameBut [.table, .lamps, .run, .port, .composer, .out] t
    ∧ t.composer.front = s.composer.front ∧ t.composer.front1 = s.composer.front1
    ∧ (¬ (s.composer.state = .idle ∧ s.composer.recompose = true) → s.sameBut [] t)
    ∧ (s.composer.state = .idle → s.composer.recompose = true →
        t.composer.state = .composing ∧ t.table.settings = s.table.settings
        ∧ t.composer.snapshot = some (snapshotOf t.table t.run.banks)
        ∧ t.composer.back = FrameBuffer.draw [] (graticuleLayer s.table.display.graticule)
        ∧ t.composer.back = (graticuleLayer s.table.display.graticule).reverse
        ∧ (s.run.banks.find .held = none → t.table = s.table ∧ t.run.banks = s.run.banks ∧ t.composer.recompose = false
            ∧ t.composer.snapshot = some (snapshotOf s.table s.run.banks))
        ∧ (∀ x, s.run.banks.find .held = some x → (t.run.banks.get x).state = .shown
            ∧ (t.run.banks.get x).desc = (s.run.banks.get x).desc)
        ∧ (∀ x, s.run.banks.find .held = some x → (s.run.banks.find .shown = none ∨ s.table.acquire.acqState ≠ .waitBank) →
            t.composer.recompose = false ∧ t.table = s.table)
        ∧ (∀ x y, s.run.banks.find .held = some x → s.run.banks.find .shown = some y →
            (s.table.acquire.acqState ≠ .waitBank → (t.run.banks.get y).state = .free)
            ∧ (s.table.acquire.acqState = .waitBank → t.composer.recompose = true
                ∧ t.run.banks.get y = { state := .filling, armed := false, desc := some (descriptorOf s.planner s.table) }
                ∧ t.table.acquire.acqState = .arming ∧ t.table.acquire.trigStatus = .waiting
                ∧ State.queued (s.run.queue ++ [.arm y s.planner.plan s.planner.front s.planner.trig]) s t)))

/-- When the traces are done the upper layers are drawn, a HELD bank frees the SHOWN one, and the Composer waits for the swap; a vertical
blank then exchanges the roles and starts a frame at once if one is needed, and else changes nothing (R81, R102, R103, R106). No paint of
the upper layers of a view whose records keep their ranges falls outside the screen or the palette, so that drawing them loses none (R108
to R114, R128 to R138). A buffer inside the screen shows at every pixel the colour that the fixed palette gives its index (R101). -/
def Obligations.FrameEndAndVerticalBlankSwap : Prop :=
  (∀ s : State, s.inReset = false →
    (∀ v, s.composer.state = .composing → s.composer.snapshot = some v → s.composer.trace.todo = [] →
      ∃ t : State, exec .frameEnd s = .next t ∧ t.composer.state = .waitSwap ∧ t.composer.front1 = s.composer.front1
        ∧ t.composer.front = s.composer.front ∧ t.composer.back = s.composer.back.draw (upperLayers v)
        ∧ (v.drawable → t.composer.back = (upperLayers v).reverse ++ s.composer.back)
        ∧ (s.run.banks.find .held = none → t.run.banks = s.run.banks)
        ∧ (∀ x y, s.run.banks.find .held = some x → s.run.banks.find .shown = some y →
            t.run.banks.get x = s.run.banks.get x
            ∧ (s.table.acquire.acqState ≠ .waitBank → (t.run.banks.get y).state = .free)
            ∧ (s.table.acquire.acqState = .waitBank → (t.run.banks.get y).state = .filling)))
    ∧ (s.composer.state = .waitSwap →
        ∃ t : State, exec .verticalBlank s = .next t ∧ t.composer.front1 = !s.composer.front1
          ∧ t.composer.front = s.composer.back
          ∧ (s.composer.recompose = false → t.composer.state = .idle ∧ t.composer.back = s.composer.front
              ∧ s.sameBut [.composer] t)
          ∧ (s.composer.recompose = true → t.composer.state = .composing))
    ∧ (s.composer.state ≠ .waitSwap → ∃ t : State, exec .verticalBlank s = .next t ∧ s.sameBut [] t))
    ∧ (∀ s : State, s.buffersInScreen → ∀ x y, ∃ i < 16, ∃ c, s.composer.front.pixel x y = i ∧ palette[i]? = some c
        ∧ s.composer.shown x y = some c)
    ∧ palette.map (fun c => (c.red, c.green, c.blue)) =
        [(0, 0, 0), (96, 96, 96), (255, 224, 0), (0, 208, 255), (255, 64, 200), (48, 224, 64), (255, 140, 0), (224, 224, 224),
         (255, 255, 255), (120, 120, 120), (255, 48, 48), (48, 96, 255), (160, 255, 160), (255, 255, 160), (160, 200, 255),
         (200, 120, 255)]

/-! ## The Storage Engine's operations -/

/-- Detection and the start-up scan (R139, R143, R154, R155): an identification of all 00h or all FFh, or a flash not ready in time, is no
flash; else the slots are read and classified, and slot 0 decides what follows (log 42: when the reads are put out). How `classify` takes over-long texts and channel names of a build is logs 50 and
53, here and below. -/
def Obligations.StartUpDetectsAndScans : Prop :=
  ∀ s : State, s.inReset = false → s.table.system.storeState = .scanning →
    (∀ a b c : Byte, s.table.system.storePresent = false →
      ∃ t : State, exec (.flashDetection a b c) s = .next t ∧ t.table.settings = s.table.settings
        ∧ (noFlash a b c = true → t.table.system = { s.table.system with storeState := .absent })
        ∧ (noFlash a b c = false → t.table.system = { s.table.system with storePresent := true }
            ∧ t.out.flash = .identification :: (List.range 32).map fun n => .read (4096 * n)))
    ∧ (s.table.system.storePresent = false →
        ∃ t : State, exec .flashReadyTimeout s = .next t ∧ t.table.settings = s.table.settings
          ∧ t.table.system = { s.table.system with storeState := .absent })
    ∧ (∀ sectors first rest, s.table.system.storePresent = true → sectors = first :: rest →
        (Instr.startUpScan sectors).wellFormed = true →
        ∃ t : State, exec (.startUpScan sectors) s = .next t ∧ t.table.settings = s.table.settings
          ∧ t.engine.directory = sectors.map (fun x => (classify s.table x).entry)
          ∧ (∀ i, classify s.table first = .valid i → t.table.system.storeState = .recalling ∧ t.engine.phase = some .read
              ∧ t.engine.op = some { op := .powerOn, slot := 0, mask := .all })
          ∧ (classify s.table first = .empty → t.table.system.storeState = .idle ∧ t.engine.result = s.engine.result)
          ∧ (classify s.table first = .damaged →
              s.ended { op := .powerOn, slot := 0, mask := .all } (.failed .damaged) t
                ∧ Faults.reported .imageDamaged (some (.slot 0)) s.faults t.faults)
          ∧ (classify s.table first = .foreign →
              s.ended { op := .powerOn, slot := 0, mask := .all } (.failed .foreign) t ∧ t.faults = s.faults))

/-- The phases of a STORE and an ERASE (R148, R149, R152): a finished erase is followed by the pages 1 to 15 and then 0, each in 10 ms, and by
the read back, which ends DONE when the sector is the image and VALID; an error of the flash ends FAILED with the sector classified; a busy
flash changes nothing (log 12; `classify`: logs 50 and 53). -/
def Obligations.WritesRunTheirPhases : Prop :=
  ∀ (s : State) (o : OpInHand) (status : Byte) (sector : List Byte), s.inReset = false → sector.length = 4096 →
    s.engine.op = some o → s.engine.waitReady = false →
    (o.op = .store → s.engine.phase = some .erase →
      ∃ t : State, exec (.storeEraseDone status sector) s = .next t
        ∧ (status.getLsbD 0 = true → s.sameBut [] t)
        ∧ (status.getLsbD 0 = false → status.getLsbD 5 = true →
            State.endedFailed o .eraseFail (classify s.table sector).entry s t)
        ∧ (status.getLsbD 0 = false → status.getLsbD 5 = false → s.sameBut [.engine, .out] t
            ∧ t.engine = { s.engine with phase := some .program, page := some 1, deadline := some (after s.clock.now 10000) }
            ∧ t.out.flash = [.pageProgram (4096 * o.slot + 256) ((s.engine.image.drop 256).take 256)]))
    ∧ (∀ p, o.op = .store → s.engine.phase = some .program → s.engine.page = some p →
        ∃ t : State, exec (.pageProgramDone status sector) s = .next t
          ∧ (status.getLsbD 0 = true → s.sameBut [] t)
          ∧ (status.getLsbD 0 = false → status.getLsbD 6 = true →
              State.endedFailed o .programFail (classify s.table sector).entry s t)
          ∧ (status.getLsbD 0 = false → status.getLsbD 6 = false → 1 ≤ p → p ≤ 15 → s.sameBut [.engine, .out] t
              ∧ (let next := if p = 15 then 0 else p + 1
                 t.engine = { s.engine with page := some next, deadline := some (after s.clock.now 10000) }
                   ∧ t.out.flash = [.pageProgram (4096 * o.slot + 256 * next) ((s.engine.image.drop (256 * next)).take 256)]))
          ∧ (status.getLsbD 0 = false → status.getLsbD 6 = false → p = 0 → s.sameBut [.engine, .out] t
              ∧ t.engine = { s.engine with phase := some .verify, page := none, deadline := none }
              ∧ t.out.flash = [.read (4096 * o.slot)]))
    ∧ (o.op = .store → s.engine.phase = some .verify →
        ∃ t : State, exec (.verify sector) s = .next t ∧ t.table.settings = s.table.settings
          ∧ (∀ i, classify s.table sector = .valid i → sector = s.engine.image →
              s.ended o .done t ∧ t.engine.directory = s.engine.directory.set o.slot (.valid i.label i.cats i.build)
                ∧ t.faults = s.faults)
          ∧ (sector ≠ s.engine.image ∨ (∀ i, classify s.table sector ≠ .valid i) →
              State.endedFailed o .verifyFail (classify s.table sector).entry s t))
    ∧ (o.op = .erase → s.engine.phase = none →
        ∃ t : State, exec (.slotEraseDone status sector) s = .next t ∧ t.table.settings = s.table.settings
          ∧ (status.getLsbD 0 = true → s.sameBut [] t)
          ∧ (status.getLsbD 0 = false → status.getLsbD 5 = true →
              State.endedFailed o .eraseFail (classify s.table sector).entry s t)
          ∧ (status.getLsbD 0 = false → status.getLsbD 5 = false →
              s.ended o .done t ∧ t.engine.directory = s.engine.directory.set o.slot .empty ∧ t.faults = s.faults))

/-- A STORE or ERASE whose flash operation or wait outlasts its time ends FAILED with TIMEOUT: the slot is DAMAGED unread, STORE_FAIL is
reported, and the flash may still be busy (R148, R149, R152). When the flash then reports ready, the operation that waits issues its first
flash operation, whose time starts then (log 25). -/
def Obligations.TimeoutsAndTheWaitForReady : Prop :=
  ∀ (s : State) (o : OpInHand), s.inReset = false → s.engine.op = some o →
    (∀ c, (c = .storeEraseTimeout ∧ o.op = .store ∧ s.engine.phase = some .erase)
        ∨ (c = .pageProgramTimeout ∧ o.op = .store ∧ s.engine.phase = some .program ∧ s.engine.waitReady = false)
        ∨ (c = .slotEraseTimeout ∧ o.op = .erase) →
      ∃ t : State, exec c s = .next t ∧ State.endedFailed o .timeout .damaged s t ∧ t.engine.flashBusy = true
        ∧ t.engine.waitReady = false ∧ t.table.settings = s.table.settings ∧ t.out = noOutputs)
    ∧ (s.engine.waitReady = true →
        ∃ t : State, exec .flashReportsReady s = .next t ∧ s.sameBut [.engine, .out] t ∧ t.engine.flashBusy = false
          ∧ t.engine.waitReady = false ∧ t.engine.op = some o
          ∧ (o.op = .store ∨ o.op = .erase → t.out.flash = [.sectorErase (4096 * o.slot)]
              ∧ t.engine.deadline = some (after s.clock.now 2000000))
          ∧ (o.op.recalls = true → t.out.flash = [.read (4096 * o.slot)] ∧ t.engine.deadline = none))

/-- The phases of a recall (R43, R150, R151): a VALID sector goes on to APPLY and any other ends FAILED DAMAGED with its entry DAMAGED and
IMAGE_DAMAGED reported; a flash not ready in time ends FAILED TIMEOUT with the entry left; APPLY is one event and ends DONE. A DEFAULTS recall
that fails applies the factory defaults, any other that fails leaves the settings (`classify`: logs 50 and 53). -/
def Obligations.RecallsReadAndApply : Prop :=
  ∀ (s : State) (o : OpInHand), s.inReset = false → s.engine.op = some o → o.op.recalls = true →
    let ended : Table := { s.table with system := { s.table.system with storeState := .idle } }
    let failed := fun t : State => t.table.settings =
      (if o.op = .defaults then (eventTable .defaults (factoryDraft ended) ended).settings else s.table.settings)
    (∀ sector, sector.length = 4096 → s.engine.phase = some .read → s.engine.waitReady = false →
      ∃ t : State, exec (.recallRead sector) s = .next t
        ∧ (∀ i, classify s.table sector = .valid i → s.sameBut [.engine] t
            ∧ t.engine = { s.engine with image := sector, deadline := none, phase := some .apply })
        ∧ ((∀ i, classify s.table sector ≠ .valid i) → s.ended o (.failed .damaged) t ∧ failed t
            ∧ t.engine.directory = s.engine.directory.set o.slot .damaged
            ∧ Faults.reported .imageDamaged (some (.slot o.slot)) s.faults t.faults))
    ∧ (s.engine.phase = some .read → s.engine.waitReady = true →
        ∃ t : State, exec .recallReadyTimeout s = .next t ∧ s.ended o (.failed .timeout) t ∧ failed t
          ∧ t.engine.directory = s.engine.directory
          ∧ Faults.reported .storeFail (some (.storeFail o.slot .timeout)) s.faults t.faults)
    ∧ (∀ i, s.engine.phase = some .apply → classify s.table s.engine.image = .valid i →
        ∃ t : State, exec .apply s = .next t ∧ s.ended o .done t ∧ t.engine.directory = s.engine.directory ∧ t.faults = s.faults
          ∧ t.table.settings = (eventTable (if o.op = .defaults then .defaults else .recall)
              (recallDraft s.table i o.mask) s.table).settings)

end
end

