-- ==== Sys2Proof/Laws/State.lean ====
section
/-! SUPPORT. What each small update of the state leaves as it was, one field a lemma, and what it puts in the field it changes. -/

namespace Sys2Proof.Machine

variable (s :
    State)

@[simp] theorem State.begin_table : s.begin.table = s.table := rfl
@[simp] theorem State.begin_inbox : s.begin.inbox = s.inbox := rfl
@[simp] theorem State.begin_scanner : s.begin.scanner = s.scanner := rfl
@[simp] theorem State.begin_lamps : s.begin.lamps = s.lamps := rfl
@[simp] theorem State.begin_planner : s.begin.planner = s.planner := rfl
@[simp] theorem State.begin_run : s.begin.run = s.run := rfl
@[simp] theorem State.begin_port : s.begin.port = s.port := rfl
@[simp] theorem State.begin_composer : s.begin.composer = s.composer := rfl
@[simp] theorem State.begin_engine : s.begin.engine = s.engine := rfl
@[simp] theorem State.begin_link : s.begin.link = s.link := rfl
@[simp] theorem State.begin_faults : s.begin.faults = s.faults := rfl
@[simp] theorem State.begin_clock : s.begin.clock = s.clock := rfl
@[simp] theorem State.begin_inReset : s.begin.inReset = s.inReset := rfl
@[simp] theorem State.begin_out : s.begin.out = noOutputs := rfl
@[simp] theorem State.begin_pending : s.begin.pending = s.pending := rfl

@[simp] theorem State.settle_table : s.settle.table = s.table := rfl
@[simp] theorem State.settle_inbox : s.settle.inbox = s.inbox := rfl
@[simp] theorem State.settle_scanner : s.settle.scanner = s.scanner := rfl
@[simp] theorem State.settle_lamps : s.settle.lamps = s.lamps := rfl
@[simp] theorem State.settle_planner : s.settle.planner = s.planner := rfl
@[simp] theorem State.settle_run : s.settle.run = s.run := rfl
@[simp] theorem State.settle_port : s.settle.port = s.port := rfl
@[simp] theorem State.settle_composer : s.settle.composer = s.composer := rfl
@[simp] theorem State.settle_engine : s.settle.engine = s.engine := rfl
@[simp] theorem State.settle_link : s.settle.link = { s.link with attn := s.attnLevel } := rfl
@[simp] theorem State.settle_faults : s.settle.faults = s.faults := rfl
@[simp] theorem State.settle_clock : s.settle.clock = s.clock := rfl
@[simp] theorem State.settle_inReset : s.settle.inReset = s.inReset := rfl
@[simp] theorem State.settle_out : s.settle.out = s.out := rfl
@[simp] theorem State.settle_pending : s.settle.pending = s.pending := rfl

@[simp] theorem State.sendMessage_table (m : PortMessage) : (s.sendMessage m).table = s.table := rfl
@[simp] theorem State.sendMessage_inbox (m : PortMessage) : (s.sendMessage m).inbox = s.inbox := rfl
@[simp] theorem State.sendMessage_scanner (m : PortMessage) : (s.sendMessage m).scanner = s.scanner := rfl
@[simp] theorem State.sendMessage_lamps (m : PortMessage) : (s.sendMessage m).lamps = s.lamps := rfl
@[simp] theorem State.sendMessage_planner (m : PortMessage) : (s.sendMessage m).planner = s.planner := rfl
@[simp] theorem State.sendMessage_run (m : PortMessage) : (s.sendMessage m).run = s.run := rfl
@[simp] theorem State.sendMessage_port (m : PortMessage) : (s.sendMessage m).port = s.port := rfl
@[simp] theorem State.sendMessage_composer (m : PortMessage) : (s.sendMessage m).composer = s.composer := rfl
@[simp] theorem State.sendMessage_engine (m : PortMessage) : (s.sendMessage m).engine = s.engine := rfl
@[simp] theorem State.sendMessage_link (m : PortMessage) : (s.sendMessage m).link = s.link := rfl
@[simp] theorem State.sendMessage_faults (m : PortMessage) : (s.sendMessage m).faults = s.faults := rfl
@[simp] theorem State.sendMessage_clock (m : PortMessage) : (s.sendMessage m).clock = s.clock := rfl
@[simp] theorem State.sendMessage_inReset (m : PortMessage) : (s.sendMessage m).inReset = s.inReset := rfl
@[simp] theorem State.sendMessage_out (m : PortMessage) :
    (s.sendMessage m).out = { s.out with capture := s.out.capture ++ [m] } := rfl
@[simp] theorem State.sendMessage_pending (m : PortMessage) : (s.sendMessage m).pending = s.pending := rfl

@[simp] theorem State.issueFlash_table (op : FlashOp) : (s.issueFlash op).table = s.table := rfl
@[simp] theorem State.issueFlash_inbox (op : FlashOp) : (s.issueFlash op).inbox = s.inbox := rfl
@[simp] theorem State.issueFlash_scanner (op : FlashOp) : (s.issueFlash op).scanner = s.scanner := rfl
@[simp] theorem State.issueFlash_lamps (op : FlashOp) : (s.issueFlash op).lamps = s.lamps := rfl
@[simp] theorem State.issueFlash_planner (op : FlashOp) : (s.issueFlash op).planner = s.planner := rfl
@[simp] theorem State.issueFlash_run (op : FlashOp) : (s.issueFlash op).run = s.run := rfl
@[simp] theorem State.issueFlash_port (op : FlashOp) : (s.issueFlash op).port = s.port := rfl
@[simp] theorem State.issueFlash_composer (op : FlashOp) : (s.issueFlash op).composer = s.composer := rfl
@[simp] theorem State.issueFlash_engine (op : FlashOp) : (s.issueFlash op).engine = s.engine := rfl
@[simp] theorem State.issueFlash_link (op : FlashOp) : (s.issueFlash op).link = s.link := rfl
@[simp] theorem State.issueFlash_faults (op : FlashOp) : (s.issueFlash op).faults = s.faults := rfl
@[simp] theorem State.issueFlash_clock (op : FlashOp) : (s.issueFlash op).clock = s.clock := rfl
@[simp] theorem State.issueFlash_inReset (op : FlashOp) : (s.issueFlash op).inReset = s.inReset := rfl
@[simp] theorem State.issueFlash_out (op : FlashOp) :
    (s.issueFlash op).out = { s.out with flash := s.out.flash ++ [op] } := rfl
@[simp] theorem State.issueFlash_pending (op : FlashOp) : (s.issueFlash op).pending = s.pending := rfl

@[simp] theorem State.notifyLamps_table (p : Ref → Bool) : (s.notifyLamps p).table = s.table := rfl
@[simp] theorem State.notifyLamps_inbox (p : Ref → Bool) : (s.notifyLamps p).inbox = s.inbox := rfl
@[simp] theorem State.notifyLamps_scanner (p : Ref → Bool) : (s.notifyLamps p).scanner = s.scanner := rfl
@[simp] theorem State.notifyLamps_planner (p : Ref → Bool) : (s.notifyLamps p).planner = s.planner := rfl
@[simp] theorem State.notifyLamps_run (p : Ref → Bool) : (s.notifyLamps p).run = s.run := rfl
@[simp] theorem State.notifyLamps_port (p : Ref → Bool) : (s.notifyLamps p).port = s.port := rfl
@[simp] theorem State.notifyLamps_composer (p : Ref → Bool) : (s.notifyLamps p).composer = s.composer := rfl
@[simp] theorem State.notifyLamps_engine (p : Ref → Bool) : (s.notifyLamps p).engine = s.engine := rfl
@[simp] theorem State.notifyLamps_link (p : Ref → Bool) : (s.notifyLamps p).link = s.link := rfl
@[simp] theorem State.notifyLamps_faults (p : Ref → Bool) : (s.notifyLamps p).faults = s.faults := rfl
@[simp] theorem State.notifyLamps_clock (p : Ref → Bool) : (s.notifyLamps p).clock = s.clock := rfl
@[simp] theorem State.notifyLamps_inReset (p : Ref → Bool) : (s.notifyLamps p).inReset = s.inReset := rfl
@[simp] theorem State.notifyLamps_out (p : Ref → Bool) : (s.notifyLamps p).out = s.out := rfl
@[simp] theorem State.notifyLamps_pending (p : Ref → Bool) : (s.notifyLamps p).pending = s.pending := rfl

@[simp] theorem State.recompose_table : s.recompose.table = s.table := rfl
@[simp] theorem State.recompose_inbox : s.recompose.inbox = s.inbox := rfl
@[simp] theorem State.recompose_scanner : s.recompose.scanner = s.scanner := rfl
@[simp] theorem State.recompose_lamps : s.recompose.lamps = s.lamps := rfl
@[simp] theorem State.recompose_planner : s.recompose.planner = s.planner := rfl
@[simp] theorem State.recompose_run : s.recompose.run = s.run := rfl
@[simp] theorem State.recompose_port : s.recompose.port = s.port := rfl
@[simp] theorem State.recompose_composer : s.recompose.composer = { s.composer with recompose := true } := rfl
@[simp] theorem State.recompose_engine : s.recompose.engine = s.engine := rfl
@[simp] theorem State.recompose_link : s.recompose.link = s.link := rfl
@[simp] theorem State.recompose_faults : s.recompose.faults = s.faults := rfl
@[simp] theorem State.recompose_clock : s.recompose.clock = s.clock := rfl
@[simp] theorem State.recompose_inReset : s.recompose.inReset = s.inReset := rfl
@[simp] theorem State.recompose_out : s.recompose.out = s.out := rfl
@[simp] theorem State.recompose_pending : s.recompose.pending = s.pending := rfl

@[simp] theorem State.errorBlink_table (c : Control) : (s.errorBlink c).table = s.table := rfl
@[simp] theorem State.errorBlink_inbox (c : Control) : (s.errorBlink c).inbox = s.inbox := rfl
@[simp] theorem State.errorBlink_scanner (c : Control) : (s.errorBlink c).scanner = s.scanner := rfl
@[simp] theorem State.errorBlink_planner (c : Control) : (s.errorBlink c).planner = s.planner := rfl
@[simp] theorem State.errorBlink_run (c : Control) : (s.errorBlink c).run = s.run := rfl
@[simp] theorem State.errorBlink_port (c : Control) : (s.errorBlink c).port = s.port := rfl
@[simp] theorem State.errorBlink_composer (c : Control) : (s.errorBlink c).composer = s.composer := rfl
@[simp] theorem State.errorBlink_engine (c : Control) : (s.errorBlink c).engine = s.engine := rfl
@[simp] theorem State.errorBlink_link (c : Control) : (s.errorBlink c).link = s.link := rfl
@[simp] theorem State.errorBlink_faults (c : Control) : (s.errorBlink c).faults = s.faults := rfl
@[simp] theorem State.errorBlink_clock (c : Control) : (s.errorBlink c).clock = s.clock := rfl
@[simp] theorem State.errorBlink_inReset (c : Control) : (s.errorBlink c).inReset = s.inReset := rfl
@[simp] theorem State.errorBlink_out (c : Control) : (s.errorBlink c).out = s.out := rfl
@[simp] theorem State.errorBlink_pending (c : Control) : (s.errorBlink c).pending = s.pending := rfl

@[simp] theorem State.report_table (c : FaultClass) (d : Option FaultDetail) : (s.report c d).table = s.table := rfl
@[simp] theorem State.report_scanner (c : FaultClass) (d : Option FaultDetail) : (s.report c d).scanner = s.scanner := rfl
@[simp] theorem State.report_lamps (c : FaultClass) (d : Option FaultDetail) : (s.report c d).lamps = s.lamps := rfl
@[simp] theorem State.report_planner (c : FaultClass) (d : Option FaultDetail) : (s.report c d).planner = s.planner := rfl
@[simp] theorem State.report_run (c : FaultClass) (d : Option FaultDetail) : (s.report c d).run = s.run := rfl
@[simp] theorem State.report_port (c : FaultClass) (d : Option FaultDetail) : (s.report c d).port = s.port := rfl
@[simp] theorem State.report_composer (c : FaultClass) (d : Option FaultDetail) : (s.report c d).composer = s.composer := rfl
@[simp] theorem State.report_engine (c : FaultClass) (d : Option FaultDetail) : (s.report c d).engine = s.engine := rfl
@[simp] theorem State.report_link (c : FaultClass) (d : Option FaultDetail) : (s.report c d).link = s.link := rfl
@[simp] theorem State.report_faults (c : FaultClass) (d : Option FaultDetail) :
    (s.report c d).faults =
      { entries := s.faults.entries.modify c.index (FaultEntry.report d), first := s.faults.first.or (some c) } := rfl
@[simp] theorem State.report_clock (c : FaultClass) (d : Option FaultDetail) : (s.report c d).clock = s.clock := rfl
@[simp] theorem State.report_inReset (c : FaultClass) (d : Option FaultDetail) : (s.report c d).inReset = s.inReset := rfl
@[simp] theorem State.report_out (c : FaultClass) (d : Option FaultDetail) : (s.report c d).out = s.out := rfl
@[simp] theorem State.report_pending (c : FaultClass) (d : Option FaultDetail) : (s.report c d).pending = s.pending := rfl

@[simp] theorem State.onRun_table (f : RunControl → RunControl) : (s.onRun f).table = s.table := rfl
@[simp] theorem State.onRun_inbox (f : RunControl → RunControl) : (s.onRun f).inbox = s.inbox := rfl
@[simp] theorem State.onRun_scanner (f : RunControl → RunControl) : (s.onRun f).scanner = s.scanner := rfl
@[simp] theorem State.onRun_lamps (f : RunControl → RunControl) : (s.onRun f).lamps = s.lamps := rfl
@[simp] theorem State.onRun_planner (f : RunControl → RunControl) : (s.onRun f).planner = s.planner := rfl
@[simp] theorem State.onRun_run (f : RunControl → RunControl) : (s.onRun f).run = f s.run := rfl
@[simp] theorem State.onRun_port (f : RunControl → RunControl) : (s.onRun f).port = s.port := rfl
@[simp] theorem State.onRun_composer (f : RunControl → RunControl) : (s.onRun f).composer = s.composer := rfl
@[simp] theorem State.onRun_engine (f : RunControl → RunControl) : (s.onRun f).engine = s.engine := rfl
@[simp] theorem State.onRun_link (f : RunControl → RunControl) : (s.onRun f).link = s.link := rfl
@[simp] theorem State.onRun_faults (f : RunControl → RunControl) : (s.onRun f).faults = s.faults := rfl
@[simp] theorem State.onRun_clock (f : RunControl → RunControl) : (s.onRun f).clock = s.clock := rfl
@[simp] theorem State.onRun_inReset (f : RunControl → RunControl) : (s.onRun f).inReset = s.inReset := rfl
@[simp] theorem State.onRun_out (f : RunControl → RunControl) : (s.onRun f).out = s.out := rfl
@[simp] theorem State.onRun_pending (f : RunControl → RunControl) : (s.onRun f).pending = s.pending := rfl

@[simp] theorem State.onBanks_table (f : Banks → Banks) : (s.onBanks f).table = s.table := rfl
@[simp] theorem State.onBanks_inbox (f : Banks → Banks) : (s.onBanks f).inbox = s.inbox := rfl
@[simp] theorem State.onBanks_scanner (f : Banks → Banks) : (s.onBanks f).scanner = s.scanner := rfl
@[simp] theorem State.onBanks_lamps (f : Banks → Banks) : (s.onBanks f).lamps = s.lamps := rfl
@[simp] theorem State.onBanks_planner (f : Banks → Banks) : (s.onBanks f).planner = s.planner := rfl
@[simp] theorem State.onBanks_run (f : Banks → Banks) : (s.onBanks f).run = { s.run with banks := f s.run.banks } := rfl
@[simp] theorem State.onBanks_port (f : Banks → Banks) : (s.onBanks f).port = s.port := rfl
@[simp] theorem State.onBanks_composer (f : Banks → Banks) : (s.onBanks f).composer = s.composer := rfl
@[simp] theorem State.onBanks_engine (f : Banks → Banks) : (s.onBanks f).engine = s.engine := rfl
@[simp] theorem State.onBanks_link (f : Banks → Banks) : (s.onBanks f).link = s.link := rfl
@[simp] theorem State.onBanks_faults (f : Banks → Banks) : (s.onBanks f).faults = s.faults := rfl
@[simp] theorem State.onBanks_clock (f : Banks → Banks) : (s.onBanks f).clock = s.clock := rfl
@[simp] theorem State.onBanks_inReset (f : Banks → Banks) : (s.onBanks f).inReset = s.inReset := rfl
@[simp] theorem State.onBanks_out (f : Banks → Banks) : (s.onBanks f).out = s.out := rfl
@[simp] theorem State.onBanks_pending (f : Banks → Banks) : (s.onBanks f).pending = s.pending := rfl

@[simp] theorem State.enqueue_table (q : RcRequest) : (s.enqueue q).table = s.table := rfl
@[simp] theorem State.enqueue_inbox (q : RcRequest) : (s.enqueue q).inbox = s.inbox := rfl
@[simp] theorem State.enqueue_scanner (q : RcRequest) : (s.enqueue q).scanner = s.scanner := rfl
@[simp] theorem State.enqueue_lamps (q : RcRequest) : (s.enqueue q).lamps = s.lamps := rfl
@[simp] theorem State.enqueue_planner (q : RcRequest) : (s.enqueue q).planner = s.planner := rfl
@[simp] theorem State.enqueue_run (q : RcRequest) : (s.enqueue q).run = { s.run with queue := s.run.queue ++ [q] } := rfl
@[simp] theorem State.enqueue_port (q : RcRequest) : (s.enqueue q).port = s.port := rfl
@[simp] theorem State.enqueue_composer (q : RcRequest) : (s.enqueue q).composer = s.composer := rfl
@[simp] theorem State.enqueue_engine (q : RcRequest) : (s.enqueue q).engine = s.engine := rfl
@[simp] theorem State.enqueue_link (q : RcRequest) : (s.enqueue q).link = s.link := rfl
@[simp] theorem State.enqueue_faults (q : RcRequest) : (s.enqueue q).faults = s.faults := rfl
@[simp] theorem State.enqueue_clock (q : RcRequest) : (s.enqueue q).clock = s.clock := rfl
@[simp] theorem State.enqueue_inReset (q : RcRequest) : (s.enqueue q).inReset = s.inReset := rfl
@[simp] theorem State.enqueue_out (q : RcRequest) : (s.enqueue q).out = s.out := rfl
@[simp] theorem State.enqueue_pending (q : RcRequest) : (s.enqueue q).pending = s.pending := rfl

@[simp] theorem State.unqueue_table (p : RcRequest → Bool) : (s.unqueue p).table = s.table := rfl
@[simp] theorem State.unqueue_inbox (p : RcRequest → Bool) : (s.unqueue p).inbox = s.inbox := rfl
@[simp] theorem State.unqueue_scanner (p : RcRequest → Bool) : (s.unqueue p).scanner = s.scanner := rfl
@[simp] theorem State.unqueue_lamps (p : RcRequest → Bool) : (s.unqueue p).lamps = s.lamps := rfl
@[simp] theorem State.unqueue_planner (p : RcRequest → Bool) : (s.unqueue p).planner = s.planner := rfl
@[simp] theorem State.unqueue_run (p : RcRequest → Bool) :
    (s.unqueue p).run = { s.run with queue := s.run.queue.filter fun q => !p q } := rfl
@[simp] theorem State.unqueue_port (p : RcRequest → Bool) : (s.unqueue p).port = s.port := rfl
@[simp] theorem State.unqueue_composer (p : RcRequest → Bool) : (s.unqueue p).composer = s.composer := rfl
@[simp] theorem State.unqueue_engine (p : RcRequest → Bool) : (s.unqueue p).engine = s.engine := rfl
@[simp] theorem State.unqueue_link (p : RcRequest → Bool) : (s.unqueue p).link = s.link := rfl
@[simp] theorem State.unqueue_faults (p : RcRequest → Bool) : (s.unqueue p).faults = s.faults := rfl
@[simp] theorem State.unqueue_clock (p : RcRequest → Bool) : (s.unqueue p).clock = s.clock := rfl
@[simp] theorem State.unqueue_inReset (p : RcRequest → Bool) : (s.unqueue p).inReset = s.inReset := rfl
@[simp] theorem State.unqueue_out (p : RcRequest → Bool) : (s.unqueue p).out = s.out := rfl
@[simp] theorem State.unqueue_pending (p : RcRequest → Bool) : (s.unqueue p).pending = s.pending := rfl

@[simp] theorem State.startAutoTimer_table : s.startAutoTimer.table = s.table := rfl
@[simp] theorem State.startAutoTimer_inbox : s.startAutoTimer.inbox = s.inbox := rfl
@[simp] theorem State.startAutoTimer_scanner : s.startAutoTimer.scanner = s.scanner := rfl
@[simp] theorem State.startAutoTimer_lamps : s.startAutoTimer.lamps = s.lamps := rfl
@[simp] theorem State.startAutoTimer_planner : s.startAutoTimer.planner = s.planner := rfl
@[simp] theorem State.startAutoTimer_run :
    s.startAutoTimer.run = { s.run with autoTimer := some (after s.clock.now (1000 * s.planner.plan.autoMs.toNat)) } := rfl
@[simp] theorem State.startAutoTimer_port : s.startAutoTimer.port = s.port := rfl
@[simp] theorem State.startAutoTimer_composer : s.startAutoTimer.composer = s.composer := rfl
@[simp] theorem State.startAutoTimer_engine : s.startAutoTimer.engine = s.engine := rfl
@[simp] theorem State.startAutoTimer_link : s.startAutoTimer.link = s.link := rfl
@[simp] theorem State.startAutoTimer_faults : s.startAutoTimer.faults = s.faults := rfl
@[simp] theorem State.startAutoTimer_clock : s.startAutoTimer.clock = s.clock := rfl
@[simp] theorem State.startAutoTimer_inReset : s.startAutoTimer.inReset = s.inReset := rfl
@[simp] theorem State.startAutoTimer_out : s.startAutoTimer.out = s.out := rfl
@[simp] theorem State.startAutoTimer_pending : s.startAutoTimer.pending = s.pending := rfl

@[simp] theorem State.cancelAutoTimer_table : s.cancelAutoTimer.table = s.table := rfl
@[simp] theorem State.cancelAutoTimer_inbox : s.cancelAutoTimer.inbox = s.inbox := rfl
@[simp] theorem State.cancelAutoTimer_scanner : s.cancelAutoTimer.scanner = s.scanner := rfl
@[simp] theorem State.cancelAutoTimer_lamps : s.cancelAutoTimer.lamps = s.lamps := rfl
@[simp] theorem State.cancelAutoTimer_planner : s.cancelAutoTimer.planner = s.planner := rfl
@[simp] theorem State.cancelAutoTimer_run : s.cancelAutoTimer.run = { s.run with autoTimer := none } := rfl
@[simp] theorem State.cancelAutoTimer_port : s.cancelAutoTimer.port = s.port := rfl
@[simp] theorem State.cancelAutoTimer_composer : s.cancelAutoTimer.composer = s.composer := rfl
@[simp] theorem State.cancelAutoTimer_engine : s.cancelAutoTimer.engine = s.engine := rfl
@[simp] theorem State.cancelAutoTimer_link : s.cancelAutoTimer.link = s.link := rfl
@[simp] theorem State.cancelAutoTimer_faults : s.cancelAutoTimer.faults = s.faults := rfl
@[simp] theorem State.cancelAutoTimer_clock : s.cancelAutoTimer.clock = s.clock := rfl
@[simp] theorem State.cancelAutoTimer_inReset : s.cancelAutoTimer.inReset = s.inReset := rfl
@[simp] theorem State.cancelAutoTimer_out : s.cancelAutoTimer.out = s.out := rfl
@[simp] theorem State.cancelAutoTimer_pending : s.cancelAutoTimer.pending = s.pending := rfl

@[simp] theorem State.reduceFailed_table : s.reduceFailed.table = s.table := rfl
@[simp] theorem State.reduceFailed_inbox : s.reduceFailed.inbox = s.inbox := rfl
@[simp] theorem State.reduceFailed_scanner : s.reduceFailed.scanner = s.scanner := rfl
@[simp] theorem State.reduceFailed_lamps : s.reduceFailed.lamps = s.lamps := rfl
@[simp] theorem State.reduceFailed_planner : s.reduceFailed.planner = s.planner := rfl
@[simp] theorem State.reduceFailed_run : s.reduceFailed.run = s.run := rfl
@[simp] theorem State.reduceFailed_port : s.reduceFailed.port = s.port := rfl
@[simp] theorem State.reduceFailed_composer :
    s.reduceFailed.composer = { s.composer with failed := true, trace := noTrace } := rfl
@[simp] theorem State.reduceFailed_engine : s.reduceFailed.engine = s.engine := rfl
@[simp] theorem State.reduceFailed_link : s.reduceFailed.link = s.link := rfl
@[simp] theorem State.reduceFailed_faults : s.reduceFailed.faults = s.faults := rfl
@[simp] theorem State.reduceFailed_clock : s.reduceFailed.clock = s.clock := rfl
@[simp] theorem State.reduceFailed_inReset : s.reduceFailed.inReset = s.inReset := rfl
@[simp] theorem State.reduceFailed_out : s.reduceFailed.out = s.out := rfl
@[simp] theorem State.reduceFailed_pending : s.reduceFailed.pending = s.pending := rfl

@[simp] theorem State.sendRequest_table (q : PortRequest) : (s.sendRequest q).table = s.table := rfl
@[simp] theorem State.sendRequest_inbox (q : PortRequest) : (s.sendRequest q).inbox = s.inbox := rfl
@[simp] theorem State.sendRequest_scanner (q : PortRequest) : (s.sendRequest q).scanner = s.scanner := rfl
@[simp] theorem State.sendRequest_lamps (q : PortRequest) : (s.sendRequest q).lamps = s.lamps := rfl
@[simp] theorem State.sendRequest_planner (q : PortRequest) : (s.sendRequest q).planner = s.planner := rfl
@[simp] theorem State.sendRequest_run (q : PortRequest) : (s.sendRequest q).run = s.run := rfl
@[simp] theorem State.sendRequest_port (q : PortRequest) :
    (s.sendRequest q).port = { s.port with outstanding := some (q, after s.clock.now 2000) } := rfl
@[simp] theorem State.sendRequest_composer (q : PortRequest) : (s.sendRequest q).composer = s.composer := rfl
@[simp] theorem State.sendRequest_engine (q : PortRequest) : (s.sendRequest q).engine = s.engine := rfl
@[simp] theorem State.sendRequest_link (q : PortRequest) : (s.sendRequest q).link = s.link := rfl
@[simp] theorem State.sendRequest_faults (q : PortRequest) : (s.sendRequest q).faults = s.faults := rfl
@[simp] theorem State.sendRequest_clock (q : PortRequest) : (s.sendRequest q).clock = s.clock := rfl
@[simp] theorem State.sendRequest_inReset (q : PortRequest) : (s.sendRequest q).inReset = s.inReset := rfl
@[simp] theorem State.sendRequest_out (q : PortRequest) :
    (s.sendRequest q).out = { s.out with capture := s.out.capture ++ [.request q] } := rfl
@[simp] theorem State.sendRequest_pending (q : PortRequest) : (s.sendRequest q).pending = s.pending := rfl

@[simp] theorem State.sendQuery_table : s.sendQuery.table = s.table := rfl
@[simp] theorem State.sendQuery_inbox : s.sendQuery.inbox = s.inbox := rfl
@[simp] theorem State.sendQuery_scanner : s.sendQuery.scanner = s.scanner := rfl
@[simp] theorem State.sendQuery_lamps : s.sendQuery.lamps = s.lamps := rfl
@[simp] theorem State.sendQuery_planner : s.sendQuery.planner = s.planner := rfl
@[simp] theorem State.sendQuery_run : s.sendQuery.run = s.run := rfl
@[simp] theorem State.sendQuery_port : s.sendQuery.port = { s.port with queryAt := some (after s.clock.now 500000) } := rfl
@[simp] theorem State.sendQuery_composer : s.sendQuery.composer = s.composer := rfl
@[simp] theorem State.sendQuery_engine : s.sendQuery.engine = s.engine := rfl
@[simp] theorem State.sendQuery_link : s.sendQuery.link = s.link := rfl
@[simp] theorem State.sendQuery_faults : s.sendQuery.faults = s.faults := rfl
@[simp] theorem State.sendQuery_clock : s.sendQuery.clock = s.clock := rfl
@[simp] theorem State.sendQuery_inReset : s.sendQuery.inReset = s.inReset := rfl
@[simp] theorem State.sendQuery_out : s.sendQuery.out = { s.out with capture := s.out.capture ++ [.query] } := rfl
@[simp] theorem State.sendQuery_pending : s.sendQuery.pending = s.pending := rfl

@[simp] theorem State.stopRepeats_table (l : List Ref) : (s.stopRepeats l).table = s.table := rfl
@[simp] theorem State.stopRepeats_inbox (l : List Ref) : (s.stopRepeats l).inbox = s.inbox := rfl
@[simp] theorem State.stopRepeats_lamps (l : List Ref) : (s.stopRepeats l).lamps = s.lamps := rfl
@[simp] theorem State.stopRepeats_planner (l : List Ref) : (s.stopRepeats l).planner = s.planner := rfl
@[simp] theorem State.stopRepeats_run (l : List Ref) : (s.stopRepeats l).run = s.run := rfl
@[simp] theorem State.stopRepeats_port (l : List Ref) : (s.stopRepeats l).port = s.port := rfl
@[simp] theorem State.stopRepeats_composer (l : List Ref) : (s.stopRepeats l).composer = s.composer := rfl
@[simp] theorem State.stopRepeats_engine (l : List Ref) : (s.stopRepeats l).engine = s.engine := rfl
@[simp] theorem State.stopRepeats_link (l : List Ref) : (s.stopRepeats l).link = s.link := rfl
@[simp] theorem State.stopRepeats_faults (l : List Ref) : (s.stopRepeats l).faults = s.faults := rfl
@[simp] theorem State.stopRepeats_clock (l : List Ref) : (s.stopRepeats l).clock = s.clock := rfl
@[simp] theorem State.stopRepeats_inReset (l : List Ref) : (s.stopRepeats l).inReset = s.inReset := rfl
@[simp] theorem State.stopRepeats_out (l : List Ref) : (s.stopRepeats l).out = s.out := rfl
@[simp] theorem State.stopRepeats_pending (l : List Ref) : (s.stopRepeats l).pending = s.pending := rfl

@[simp] theorem State.rebindLamps_table (l : List Ref) : (s.rebindLamps l).table = s.table := rfl
@[simp] theorem State.rebindLamps_inbox (l : List Ref) : (s.rebindLamps l).inbox = s.inbox := rfl
@[simp] theorem State.rebindLamps_scanner (l : List Ref) : (s.rebindLamps l).scanner = s.scanner := rfl
@[simp] theorem State.rebindLamps_planner (l : List Ref) : (s.rebindLamps l).planner = s.planner := rfl
@[simp] theorem State.rebindLamps_run (l : List Ref) : (s.rebindLamps l).run = s.run := rfl
@[simp] theorem State.rebindLamps_port (l : List Ref) : (s.rebindLamps l).port = s.port := rfl
@[simp] theorem State.rebindLamps_composer (l : List Ref) : (s.rebindLamps l).composer = s.composer := rfl
@[simp] theorem State.rebindLamps_engine (l : List Ref) : (s.rebindLamps l).engine = s.engine := rfl
@[simp] theorem State.rebindLamps_link (l : List Ref) : (s.rebindLamps l).link = s.link := rfl
@[simp] theorem State.rebindLamps_faults (l : List Ref) : (s.rebindLamps l).faults = s.faults := rfl
@[simp] theorem State.rebindLamps_clock (l : List Ref) : (s.rebindLamps l).clock = s.clock := rfl
@[simp] theorem State.rebindLamps_inReset (l : List Ref) : (s.rebindLamps l).inReset = s.inReset := rfl
@[simp] theorem State.rebindLamps_out (l : List Ref) : (s.rebindLamps l).out = s.out := rfl
@[simp] theorem State.rebindLamps_pending (l : List Ref) : (s.rebindLamps l).pending = s.pending := rfl

@[simp] theorem State.onEngine_table (f : Engine → Engine) : (s.onEngine f).table = s.table := rfl
@[simp] theorem State.onEngine_inbox (f : Engine → Engine) : (s.onEngine f).inbox = s.inbox := rfl
@[simp] theorem State.onEngine_scanner (f : Engine → Engine) : (s.onEngine f).scanner = s.scanner := rfl
@[simp] theorem State.onEngine_lamps (f : Engine → Engine) : (s.onEngine f).lamps = s.lamps := rfl
@[simp] theorem State.onEngine_planner (f : Engine → Engine) : (s.onEngine f).planner = s.planner := rfl
@[simp] theorem State.onEngine_run (f : Engine → Engine) : (s.onEngine f).run = s.run := rfl
@[simp] theorem State.onEngine_port (f : Engine → Engine) : (s.onEngine f).port = s.port := rfl
@[simp] theorem State.onEngine_composer (f : Engine → Engine) : (s.onEngine f).composer = s.composer := rfl
@[simp] theorem State.onEngine_engine (f : Engine → Engine) : (s.onEngine f).engine = f s.engine := rfl
@[simp] theorem State.onEngine_link (f : Engine → Engine) : (s.onEngine f).link = s.link := rfl
@[simp] theorem State.onEngine_faults (f : Engine → Engine) : (s.onEngine f).faults = s.faults := rfl
@[simp] theorem State.onEngine_clock (f : Engine → Engine) : (s.onEngine f).clock = s.clock := rfl
@[simp] theorem State.onEngine_inReset (f : Engine → Engine) : (s.onEngine f).inReset = s.inReset := rfl
@[simp] theorem State.onEngine_out (f : Engine → Engine) : (s.onEngine f).out = s.out := rfl
@[simp] theorem State.onEngine_pending (f : Engine → Engine) : (s.onEngine f).pending = s.pending := rfl

@[simp] theorem State.setSlot_table (n : Nat) (e : SlotEntry) : (s.setSlot n e).table = s.table := rfl
@[simp] theorem State.setSlot_inbox (n : Nat) (e : SlotEntry) : (s.setSlot n e).inbox = s.inbox := rfl
@[simp] theorem State.setSlot_scanner (n : Nat) (e : SlotEntry) : (s.setSlot n e).scanner = s.scanner := rfl
@[simp] theorem State.setSlot_lamps (n : Nat) (e : SlotEntry) : (s.setSlot n e).lamps = s.lamps := rfl
@[simp] theorem State.setSlot_planner (n : Nat) (e : SlotEntry) : (s.setSlot n e).planner = s.planner := rfl
@[simp] theorem State.setSlot_run (n : Nat) (e : SlotEntry) : (s.setSlot n e).run = s.run := rfl
@[simp] theorem State.setSlot_port (n : Nat) (e : SlotEntry) : (s.setSlot n e).port = s.port := rfl
@[simp] theorem State.setSlot_composer (n : Nat) (e : SlotEntry) : (s.setSlot n e).composer = s.composer := rfl
@[simp] theorem State.setSlot_engine (n : Nat) (e : SlotEntry) :
    (s.setSlot n e).engine = { s.engine with directory := s.engine.directory.set n e } := rfl
@[simp] theorem State.setSlot_link (n : Nat) (e : SlotEntry) : (s.setSlot n e).link = s.link := rfl
@[simp] theorem State.setSlot_faults (n : Nat) (e : SlotEntry) : (s.setSlot n e).faults = s.faults := rfl
@[simp] theorem State.setSlot_clock (n : Nat) (e : SlotEntry) : (s.setSlot n e).clock = s.clock := rfl
@[simp] theorem State.setSlot_inReset (n : Nat) (e : SlotEntry) : (s.setSlot n e).inReset = s.inReset := rfl
@[simp] theorem State.setSlot_out (n : Nat) (e : SlotEntry) : (s.setSlot n e).out = s.out := rfl
@[simp] theorem State.setSlot_pending (n : Nat) (e : SlotEntry) : (s.setSlot n e).pending = s.pending := rfl

@[simp] theorem State.onLink_table (f : Link → Link) : (s.onLink f).table = s.table := rfl
@[simp] theorem State.onLink_inbox (f : Link → Link) : (s.onLink f).inbox = s.inbox := rfl
@[simp] theorem State.onLink_scanner (f : Link → Link) : (s.onLink f).scanner = s.scanner := rfl
@[simp] theorem State.onLink_lamps (f : Link → Link) : (s.onLink f).lamps = s.lamps := rfl
@[simp] theorem State.onLink_planner (f : Link → Link) : (s.onLink f).planner = s.planner := rfl
@[simp] theorem State.onLink_run (f : Link → Link) : (s.onLink f).run = s.run := rfl
@[simp] theorem State.onLink_port (f : Link → Link) : (s.onLink f).port = s.port := rfl
@[simp] theorem State.onLink_composer (f : Link → Link) : (s.onLink f).composer = s.composer := rfl
@[simp] theorem State.onLink_engine (f : Link → Link) : (s.onLink f).engine = s.engine := rfl
@[simp] theorem State.onLink_link (f : Link → Link) : (s.onLink f).link = f s.link := rfl
@[simp] theorem State.onLink_faults (f : Link → Link) : (s.onLink f).faults = s.faults := rfl
@[simp] theorem State.onLink_clock (f : Link → Link) : (s.onLink f).clock = s.clock := rfl
@[simp] theorem State.onLink_inReset (f : Link → Link) : (s.onLink f).inReset = s.inReset := rfl
@[simp] theorem State.onLink_out (f : Link → Link) : (s.onLink f).out = s.out := rfl
@[simp] theorem State.onLink_pending (f : Link → Link) : (s.onLink f).pending = s.pending := rfl

@[simp] theorem State.respond_table (k : Byte) (r : Reply) : (s.respond k r).table = s.table := rfl
@[simp] theorem State.respond_inbox (k : Byte) (r : Reply) : (s.respond k r).inbox = s.inbox := rfl
@[simp] theorem State.respond_scanner (k : Byte) (r : Reply) : (s.respond k r).scanner = s.scanner := rfl
@[simp] theorem State.respond_lamps (k : Byte) (r : Reply) : (s.respond k r).lamps = s.lamps := rfl
@[simp] theorem State.respond_planner (k : Byte) (r : Reply) : (s.respond k r).planner = s.planner := rfl
@[simp] theorem State.respond_run (k : Byte) (r : Reply) : (s.respond k r).run = s.run := rfl
@[simp] theorem State.respond_port (k : Byte) (r : Reply) : (s.respond k r).port = s.port := rfl
@[simp] theorem State.respond_composer (k : Byte) (r : Reply) : (s.respond k r).composer = s.composer := rfl
@[simp] theorem State.respond_engine (k : Byte) (r : Reply) : (s.respond k r).engine = s.engine := rfl
@[simp] theorem State.respond_link (k : Byte) (r : Reply) :
    (s.respond k r).link = { s.link with inHand := none, response := responseFrame k r } := rfl
@[simp] theorem State.respond_faults (k : Byte) (r : Reply) : (s.respond k r).faults = s.faults := rfl
@[simp] theorem State.respond_clock (k : Byte) (r : Reply) : (s.respond k r).clock = s.clock := rfl
@[simp] theorem State.respond_inReset (k : Byte) (r : Reply) : (s.respond k r).inReset = s.inReset := rfl
@[simp] theorem State.respond_out (k : Byte) (r : Reply) : (s.respond k r).out = s.out := rfl
@[simp] theorem State.respond_pending (k : Byte) (r : Reply) : (s.respond k r).pending = s.pending := rfl

@[simp] theorem State.removeIntent_table (k : RecKey) :
    (s.removeIntent k).table = { s.table with intents := dropKey k s.table.intents } := rfl
@[simp] theorem State.removeIntent_inbox (k : RecKey) : (s.removeIntent k).inbox = s.inbox := rfl
@[simp] theorem State.removeIntent_scanner (k : RecKey) : (s.removeIntent k).scanner = s.scanner := rfl
@[simp] theorem State.removeIntent_lamps (k : RecKey) : (s.removeIntent k).lamps = s.lamps := rfl
@[simp] theorem State.removeIntent_planner (k : RecKey) : (s.removeIntent k).planner = s.planner := rfl
@[simp] theorem State.removeIntent_run (k : RecKey) : (s.removeIntent k).run = s.run := rfl
@[simp] theorem State.removeIntent_port (k : RecKey) : (s.removeIntent k).port = s.port := rfl
@[simp] theorem State.removeIntent_composer (k : RecKey) : (s.removeIntent k).composer = s.composer := rfl
@[simp] theorem State.removeIntent_engine (k : RecKey) : (s.removeIntent k).engine = s.engine := rfl
@[simp] theorem State.removeIntent_link (k : RecKey) : (s.removeIntent k).link = s.link := rfl
@[simp] theorem State.removeIntent_faults (k : RecKey) : (s.removeIntent k).faults = s.faults := rfl
@[simp] theorem State.removeIntent_clock (k : RecKey) : (s.removeIntent k).clock = s.clock := rfl
@[simp] theorem State.removeIntent_inReset (k : RecKey) : (s.removeIntent k).inReset = s.inReset := rfl
@[simp] theorem State.removeIntent_out (k : RecKey) : (s.removeIntent k).out = s.out := rfl
@[simp] theorem State.removeIntent_pending (k : RecKey) : (s.removeIntent k).pending = s.pending := rfl

@[simp] theorem State.backlightPeriod_table : s.backlightPeriod.table = s.table := rfl
@[simp] theorem State.backlightPeriod_inbox : s.backlightPeriod.inbox = s.inbox := rfl
@[simp] theorem State.backlightPeriod_scanner : s.backlightPeriod.scanner = s.scanner := rfl
@[simp] theorem State.backlightPeriod_lamps : s.backlightPeriod.lamps = s.lamps := rfl
@[simp] theorem State.backlightPeriod_planner : s.backlightPeriod.planner = s.planner := rfl
@[simp] theorem State.backlightPeriod_run : s.backlightPeriod.run = s.run := rfl
@[simp] theorem State.backlightPeriod_port : s.backlightPeriod.port = s.port := rfl
@[simp] theorem State.backlightPeriod_composer :
    s.backlightPeriod.composer = { s.composer with backlightOn := 40 * s.table.display.backlight } := rfl
@[simp] theorem State.backlightPeriod_engine : s.backlightPeriod.engine = s.engine := rfl
@[simp] theorem State.backlightPeriod_link : s.backlightPeriod.link = s.link := rfl
@[simp] theorem State.backlightPeriod_faults : s.backlightPeriod.faults = s.faults := rfl
@[simp] theorem State.backlightPeriod_clock : s.backlightPeriod.clock = s.clock := rfl
@[simp] theorem State.backlightPeriod_inReset : s.backlightPeriod.inReset = s.inReset := rfl
@[simp] theorem State.backlightPeriod_out : s.backlightPeriod.out = s.out := rfl
@[simp] theorem State.backlightPeriod_pending : s.backlightPeriod.pending = s.pending := rfl

@[simp] theorem State.setRepeat_table (k : Fin 40) (t : Option Time) : (s.setRepeat k t).table = s.table := rfl
@[simp] theorem State.setRepeat_inbox (k : Fin 40) (t : Option Time) : (s.setRepeat k t).inbox = s.inbox := rfl
@[simp] theorem State.setRepeat_lamps (k : Fin 40) (t : Option Time) : (s.setRepeat k t).lamps = s.lamps := rfl
@[simp] theorem State.setRepeat_planner (k : Fin 40) (t : Option Time) : (s.setRepeat k t).planner = s.planner := rfl
@[simp] theorem State.setRepeat_run (k : Fin 40) (t : Option Time) : (s.setRepeat k t).run = s.run := rfl
@[simp] theorem State.setRepeat_port (k : Fin 40) (t : Option Time) : (s.setRepeat k t).port = s.port := rfl
@[simp] theorem State.setRepeat_composer (k : Fin 40) (t : Option Time) : (s.setRepeat k t).composer = s.composer := rfl
@[simp] theorem State.setRepeat_engine (k : Fin 40) (t : Option Time) : (s.setRepeat k t).engine = s.engine := rfl
@[simp] theorem State.setRepeat_link (k : Fin 40) (t : Option Time) : (s.setRepeat k t).link = s.link := rfl
@[simp] theorem State.setRepeat_faults (k : Fin 40) (t : Option Time) : (s.setRepeat k t).faults = s.faults := rfl
@[simp] theorem State.setRepeat_clock (k : Fin 40) (t : Option Time) : (s.setRepeat k t).clock = s.clock := rfl
@[simp] theorem State.setRepeat_inReset (k : Fin 40) (t : Option Time) : (s.setRepeat k t).inReset = s.inReset := rfl
@[simp] theorem State.setRepeat_out (k : Fin 40) (t : Option Time) : (s.setRepeat k t).out = s.out := rfl
@[simp] theorem State.setRepeat_pending (k : Fin 40) (t : Option Time) : (s.setRepeat k t).pending = s.pending := rfl

end Sys2Proof.Machine
end

