-- ==== Sys2Proof/Laws/Frames.lean ====
section
/-! SUPPORT. What each shared operation leaves as it was: one lemma per operation, naming every part of the state it never
writes. -/

namespace Sys2Proof.Machine

variable (s : State)

@[simp] theorem State.arrive_frame (t : Time) :
    (s.arrive t).table = s.table ∧ (s.arrive t).inbox = s.inbox ∧ (s.arrive t).scanner = s.scanner ∧
      (s.arrive t).lamps = s.lamps ∧ (s.arrive t).planner = s.planner ∧ (s.arrive t).run = s.run ∧
      (s.arrive t).port = s.port ∧ (s.arrive t).composer = s.composer ∧ (s.arrive t).engine = s.engine ∧
      (s.arrive t).link = s.link ∧ (s.arrive t).faults = s.faults ∧ (s.arrive t).inReset = s.inReset ∧
      (s.arrive t).out = s.out ∧ (s.arrive t).pending = s.pending := by unfold State.arrive; (repeat' split) <;> simp

@[simp] theorem State.arriveOpt_frame (t : Option Time) :
    (s.arriveOpt t).table = s.table ∧ (s.arriveOpt t).inbox = s.inbox ∧ (s.arriveOpt t).scanner = s.scanner ∧
      (s.arriveOpt t).lamps = s.lamps ∧ (s.arriveOpt t).planner = s.planner ∧ (s.arriveOpt t).run = s.run ∧
      (s.arriveOpt t).port = s.port ∧ (s.arriveOpt t).composer = s.composer ∧ (s.arriveOpt t).engine = s.engine ∧
      (s.arriveOpt t).link = s.link ∧ (s.arriveOpt t).faults = s.faults ∧ (s.arriveOpt t).inReset = s.inReset ∧
      (s.arriveOpt t).out = s.out ∧ (s.arriveOpt t).pending = s.pending :=
  by unfold State.arriveOpt; (repeat' split) <;> simp

@[simp] theorem State.statusUpdate_frame (r : Ref) (w : Table → Table) :
    (s.statusUpdate r w).inbox = s.inbox ∧ (s.statusUpdate r w).scanner = s.scanner ∧
      (s.statusUpdate r w).planner = s.planner ∧ (s.statusUpdate r w).run = s.run ∧ (s.statusUpdate r w).port = s.port ∧
      (s.statusUpdate r w).engine = s.engine ∧ (s.statusUpdate r w).link = s.link ∧
      (s.statusUpdate r w).faults = s.faults ∧ (s.statusUpdate r w).clock = s.clock ∧
      (s.statusUpdate r w).inReset = s.inReset ∧ (s.statusUpdate r w).out = s.out ∧
      (s.statusUpdate r w).pending = s.pending := by unfold State.statusUpdate; dsimp only; split <;> simp

@[simp] theorem State.setAcqState_frame (v : AcqState) :
    (s.setAcqState v).inbox = s.inbox ∧ (s.setAcqState v).scanner = s.scanner ∧ (s.setAcqState v).planner = s.planner ∧
      (s.setAcqState v).run = s.run ∧ (s.setAcqState v).port = s.port ∧ (s.setAcqState v).engine = s.engine ∧
      (s.setAcqState v).link = s.link ∧ (s.setAcqState v).faults = s.faults ∧ (s.setAcqState v).clock = s.clock ∧
      (s.setAcqState v).inReset = s.inReset ∧ (s.setAcqState v).out = s.out ∧ (s.setAcqState v).pending = s.pending :=
  by simp [State.setAcqState]

@[simp] theorem State.setTrigStatus_frame (v : TrigStatus) :
    (s.setTrigStatus v).inbox = s.inbox ∧ (s.setTrigStatus v).scanner = s.scanner ∧
      (s.setTrigStatus v).planner = s.planner ∧ (s.setTrigStatus v).run = s.run ∧ (s.setTrigStatus v).port = s.port ∧
      (s.setTrigStatus v).engine = s.engine ∧ (s.setTrigStatus v).link = s.link ∧ (s.setTrigStatus v).faults = s.faults ∧
      (s.setTrigStatus v).clock = s.clock ∧ (s.setTrigStatus v).inReset = s.inReset ∧ (s.setTrigStatus v).out = s.out ∧
      (s.setTrigStatus v).pending = s.pending := by simp [State.setTrigStatus]

@[simp] theorem State.setStorePresent_frame (v : Bool) :
    (s.setStorePresent v).inbox = s.inbox ∧ (s.setStorePresent v).scanner = s.scanner ∧
      (s.setStorePresent v).planner = s.planner ∧ (s.setStorePresent v).run = s.run ∧
      (s.setStorePresent v).port = s.port ∧ (s.setStorePresent v).engine = s.engine ∧
      (s.setStorePresent v).link = s.link ∧ (s.setStorePresent v).faults = s.faults ∧
      (s.setStorePresent v).clock = s.clock ∧ (s.setStorePresent v).inReset = s.inReset ∧
      (s.setStorePresent v).out = s.out ∧ (s.setStorePresent v).pending = s.pending := by simp [State.setStorePresent]

@[simp] theorem State.setStoreState_frame (v : StoreState) :
    (s.setStoreState v).inbox = s.inbox ∧ (s.setStoreState v).scanner = s.scanner ∧
      (s.setStoreState v).planner = s.planner ∧ (s.setStoreState v).run = s.run ∧ (s.setStoreState v).port = s.port ∧
      (s.setStoreState v).engine = s.engine ∧ (s.setStoreState v).link = s.link ∧ (s.setStoreState v).faults = s.faults ∧
      (s.setStoreState v).clock = s.clock ∧ (s.setStoreState v).inReset = s.inReset ∧ (s.setStoreState v).out = s.out ∧
      (s.setStoreState v).pending = s.pending := by simp [State.setStoreState]

@[simp] theorem State.setCaptureOnline_frame (v : Bool) :
    (s.setCaptureOnline v).inbox = s.inbox ∧ (s.setCaptureOnline v).scanner = s.scanner ∧
      (s.setCaptureOnline v).planner = s.planner ∧ (s.setCaptureOnline v).run = s.run ∧
      (s.setCaptureOnline v).port = s.port ∧ (s.setCaptureOnline v).engine = s.engine ∧
      (s.setCaptureOnline v).link = s.link ∧ (s.setCaptureOnline v).faults = s.faults ∧
      (s.setCaptureOnline v).clock = s.clock ∧ (s.setCaptureOnline v).inReset = s.inReset ∧
      (s.setCaptureOnline v).out = s.out ∧ (s.setCaptureOnline v).pending = s.pending :=
  by simp [State.setCaptureOnline]

@[simp] theorem State.countAcquisition_frame :
    s.countAcquisition.inbox = s.inbox ∧ s.countAcquisition.scanner = s.scanner ∧
      s.countAcquisition.planner = s.planner ∧ s.countAcquisition.run = s.run ∧ s.countAcquisition.port = s.port ∧
      s.countAcquisition.engine = s.engine ∧ s.countAcquisition.link = s.link ∧ s.countAcquisition.faults = s.faults ∧
      s.countAcquisition.clock = s.clock ∧ s.countAcquisition.inReset = s.inReset ∧ s.countAcquisition.out = s.out ∧
      s.countAcquisition.pending = s.pending := by simp [State.countAcquisition]

@[simp] theorem State.arm_frame :
    s.arm.inbox = s.inbox ∧ s.arm.scanner = s.scanner ∧ s.arm.planner = s.planner ∧ s.arm.port = s.port ∧
      s.arm.engine = s.engine ∧ s.arm.link = s.link ∧ s.arm.faults = s.faults ∧ s.arm.clock = s.clock ∧
      s.arm.inReset = s.inReset ∧ s.arm.out = s.out ∧ s.arm.pending = s.pending :=
  by unfold State.arm; (repeat' split) <;> simp

@[simp] theorem State.bankFreed_frame :
    s.bankFreed.inbox = s.inbox ∧ s.bankFreed.scanner = s.scanner ∧ s.bankFreed.planner = s.planner ∧
      s.bankFreed.port = s.port ∧ s.bankFreed.engine = s.engine ∧ s.bankFreed.link = s.link ∧
      s.bankFreed.faults = s.faults ∧ s.bankFreed.clock = s.clock ∧ s.bankFreed.inReset = s.inReset ∧
      s.bankFreed.out = s.out ∧ s.bankFreed.pending = s.pending := by unfold State.bankFreed; (repeat' split) <;> simp

@[simp] theorem State.abandon_frame :
    s.abandon.table = s.table ∧ s.abandon.inbox = s.inbox ∧ s.abandon.scanner = s.scanner ∧ s.abandon.lamps = s.lamps ∧
      s.abandon.planner = s.planner ∧ s.abandon.port = s.port ∧ s.abandon.composer = s.composer ∧
      s.abandon.engine = s.engine ∧ s.abandon.link = s.link ∧ s.abandon.faults = s.faults ∧ s.abandon.clock = s.clock ∧
      s.abandon.inReset = s.inReset ∧ s.abandon.out = s.out ∧ s.abandon.pending = s.pending :=
  by unfold State.abandon; dsimp only; (repeat' split) <;> simp

@[simp] theorem State.handover_frame :
    s.handover.inbox = s.inbox ∧ s.handover.scanner = s.scanner ∧ s.handover.planner = s.planner ∧
      s.handover.port = s.port ∧ s.handover.engine = s.engine ∧ s.handover.link = s.link ∧ s.handover.faults = s.faults ∧
      s.handover.clock = s.clock ∧ s.handover.inReset = s.inReset ∧ s.handover.out = s.out ∧
      s.handover.pending = s.pending := by unfold State.handover; dsimp only; (repeat' split) <;> simp

@[simp] theorem State.triggerUpdate_frame (m : TrigMode) :
    (s.triggerUpdate m).table = s.table ∧ (s.triggerUpdate m).inbox = s.inbox ∧ (s.triggerUpdate m).scanner = s.scanner ∧
      (s.triggerUpdate m).lamps = s.lamps ∧ (s.triggerUpdate m).planner = s.planner ∧ (s.triggerUpdate m).port = s.port ∧
      (s.triggerUpdate m).composer = s.composer ∧ (s.triggerUpdate m).engine = s.engine ∧
      (s.triggerUpdate m).link = s.link ∧ (s.triggerUpdate m).faults = s.faults ∧ (s.triggerUpdate m).clock = s.clock ∧
      (s.triggerUpdate m).inReset = s.inReset ∧ (s.triggerUpdate m).out = s.out ∧
      (s.triggerUpdate m).pending = s.pending := by unfold State.triggerUpdate; dsimp only; (repeat' split) <;> simp

@[simp] theorem State.forceTrigger_frame :
    s.forceTrigger.1.table = s.table ∧ s.forceTrigger.1.inbox = s.inbox ∧ s.forceTrigger.1.scanner = s.scanner ∧
      s.forceTrigger.1.lamps = s.lamps ∧ s.forceTrigger.1.planner = s.planner ∧ s.forceTrigger.1.port = s.port ∧
      s.forceTrigger.1.composer = s.composer ∧ s.forceTrigger.1.engine = s.engine ∧ s.forceTrigger.1.link = s.link ∧
      s.forceTrigger.1.faults = s.faults ∧ s.forceTrigger.1.clock = s.clock ∧ s.forceTrigger.1.inReset = s.inReset ∧
      s.forceTrigger.1.out = s.out ∧ s.forceTrigger.1.pending = s.pending :=
  by unfold State.forceTrigger; (repeat' split) <;> simp

@[simp] theorem State.pump_frame :
    s.pump.table = s.table ∧ s.pump.inbox = s.inbox ∧ s.pump.scanner = s.scanner ∧ s.pump.lamps = s.lamps ∧
      s.pump.planner = s.planner ∧ s.pump.engine = s.engine ∧ s.pump.link = s.link ∧ s.pump.faults = s.faults ∧
      s.pump.clock = s.clock ∧ s.pump.inReset = s.inReset ∧ s.pump.pending = s.pending :=
  by unfold State.pump; dsimp only; (repeat' split) <;> simp

@[simp] theorem State.offerReduce_frame (r : Reduce) :
    (s.offerReduce r).table = s.table ∧ (s.offerReduce r).inbox = s.inbox ∧ (s.offerReduce r).scanner = s.scanner ∧
      (s.offerReduce r).lamps = s.lamps ∧ (s.offerReduce r).planner = s.planner ∧ (s.offerReduce r).engine = s.engine ∧
      (s.offerReduce r).link = s.link ∧ (s.offerReduce r).faults = s.faults ∧ (s.offerReduce r).clock = s.clock ∧
      (s.offerReduce r).inReset = s.inReset ∧ (s.offerReduce r).pending = s.pending :=
  by unfold State.offerReduce; (repeat' split) <;> simp

@[simp] theorem State.failReduces_frame :
    s.failReduces.table = s.table ∧ s.failReduces.inbox = s.inbox ∧ s.failReduces.scanner = s.scanner ∧
      s.failReduces.lamps = s.lamps ∧ s.failReduces.planner = s.planner ∧ s.failReduces.run = s.run ∧
      s.failReduces.engine = s.engine ∧ s.failReduces.link = s.link ∧ s.failReduces.faults = s.faults ∧
      s.failReduces.clock = s.clock ∧ s.failReduces.inReset = s.inReset ∧ s.failReduces.out = s.out ∧
      s.failReduces.pending = s.pending := by unfold State.failReduces; dsimp only; split <;> simp

@[simp] theorem State.failPort_frame (q : PortRequest) :
    (s.failPort q).scanner = s.scanner ∧ (s.failPort q).planner = s.planner ∧ (s.failPort q).engine = s.engine ∧
      (s.failPort q).link = s.link ∧ (s.failPort q).clock = s.clock ∧ (s.failPort q).inReset = s.inReset ∧
      (s.failPort q).pending = s.pending := by simp [State.failPort]

@[simp] theorem State.restart_frame :
    s.restart.inbox = s.inbox ∧ s.restart.scanner = s.scanner ∧ s.restart.planner = s.planner ∧ s.restart.port = s.port ∧
      s.restart.engine = s.engine ∧ s.restart.link = s.link ∧ s.restart.faults = s.faults ∧ s.restart.clock = s.clock ∧
      s.restart.inReset = s.inReset ∧ s.restart.out = s.out ∧ s.restart.pending = s.pending :=
  by unfold State.restart; dsimp only; split <;> simp

@[simp] theorem State.takeHello_frame :
    s.takeHello.inbox = s.inbox ∧ s.takeHello.scanner = s.scanner ∧ s.takeHello.planner = s.planner ∧
      s.takeHello.engine = s.engine ∧ s.takeHello.link = s.link ∧ s.takeHello.faults = s.faults ∧
      s.takeHello.clock = s.clock ∧ s.takeHello.inReset = s.inReset ∧ s.takeHello.pending = s.pending :=
  by unfold State.takeHello; (repeat' split) <;> simp

@[simp] theorem State.takeAck_frame :
    s.takeAck.inbox = s.inbox ∧ s.takeAck.scanner = s.scanner ∧ s.takeAck.planner = s.planner ∧
      s.takeAck.engine = s.engine ∧ s.takeAck.link = s.link ∧ s.takeAck.faults = s.faults ∧ s.takeAck.clock = s.clock ∧
      s.takeAck.inReset = s.inReset ∧ s.takeAck.pending = s.pending :=
  by unfold State.takeAck; dsimp only; (repeat' split) <;> simp

@[simp] theorem State.takePrefilled_frame (x : Bank) :
    (s.takePrefilled x).inbox = s.inbox ∧ (s.takePrefilled x).scanner = s.scanner ∧
      (s.takePrefilled x).planner = s.planner ∧ (s.takePrefilled x).engine = s.engine ∧
      (s.takePrefilled x).link = s.link ∧ (s.takePrefilled x).faults = s.faults ∧ (s.takePrefilled x).clock = s.clock ∧
      (s.takePrefilled x).inReset = s.inReset ∧ (s.takePrefilled x).pending = s.pending :=
  by unfold State.takePrefilled; dsimp only; (repeat' split) <;> simp

@[simp] theorem State.trigger_frame (x : Bank) (b : Bool) :
    (s.trigger x b).inbox = s.inbox ∧ (s.trigger x b).scanner = s.scanner ∧ (s.trigger x b).planner = s.planner ∧
      (s.trigger x b).port = s.port ∧ (s.trigger x b).engine = s.engine ∧ (s.trigger x b).link = s.link ∧
      (s.trigger x b).faults = s.faults ∧ (s.trigger x b).clock = s.clock ∧ (s.trigger x b).inReset = s.inReset ∧
      (s.trigger x b).out = s.out ∧ (s.trigger x b).pending = s.pending := by simp [State.trigger]

@[simp] theorem State.takeTriggered_frame (x : Bank) (b : Bool) :
    (s.takeTriggered x b).inbox = s.inbox ∧ (s.takeTriggered x b).scanner = s.scanner ∧
      (s.takeTriggered x b).planner = s.planner ∧ (s.takeTriggered x b).engine = s.engine ∧
      (s.takeTriggered x b).link = s.link ∧ (s.takeTriggered x b).faults = s.faults ∧
      (s.takeTriggered x b).clock = s.clock ∧ (s.takeTriggered x b).inReset = s.inReset ∧
      (s.takeTriggered x b).pending = s.pending := by unfold State.takeTriggered; (repeat' split) <;> simp

@[simp] theorem State.takeComplete_frame (x : Bank) :
    (s.takeComplete x).scanner = s.scanner ∧ (s.takeComplete x).planner = s.planner ∧
      (s.takeComplete x).engine = s.engine ∧ (s.takeComplete x).link = s.link ∧ (s.takeComplete x).faults = s.faults ∧
      (s.takeComplete x).clock = s.clock ∧ (s.takeComplete x).inReset = s.inReset ∧
      (s.takeComplete x).pending = s.pending := by unfold State.takeComplete; dsimp only; (repeat' split) <;> simp

@[simp] theorem State.expireAutoTimer_frame :
    s.expireAutoTimer.table = s.table ∧ s.expireAutoTimer.inbox = s.inbox ∧ s.expireAutoTimer.scanner = s.scanner ∧
      s.expireAutoTimer.lamps = s.lamps ∧ s.expireAutoTimer.planner = s.planner ∧ s.expireAutoTimer.engine = s.engine ∧
      s.expireAutoTimer.link = s.link ∧ s.expireAutoTimer.faults = s.faults ∧ s.expireAutoTimer.inReset = s.inReset ∧
      s.expireAutoTimer.pending = s.pending := by unfold State.expireAutoTimer; (repeat' split) <;> simp

@[simp] theorem State.takeBank_frame :
    s.takeBank.inbox = s.inbox ∧ s.takeBank.scanner = s.scanner ∧ s.takeBank.planner = s.planner ∧
      s.takeBank.engine = s.engine ∧ s.takeBank.link = s.link ∧ s.takeBank.faults = s.faults ∧
      s.takeBank.clock = s.clock ∧ s.takeBank.inReset = s.inReset ∧ s.takeBank.pending = s.pending :=
  by unfold State.takeBank; (repeat' split) <;> simp

@[simp] theorem State.endBank_frame :
    s.endBank.inbox = s.inbox ∧ s.endBank.scanner = s.scanner ∧ s.endBank.planner = s.planner ∧
      s.endBank.engine = s.engine ∧ s.endBank.link = s.link ∧ s.endBank.faults = s.faults ∧ s.endBank.clock = s.clock ∧
      s.endBank.inReset = s.inReset ∧ s.endBank.pending = s.pending :=
  by unfold State.endBank; (repeat' split) <;> simp

@[simp] theorem State.handOver_frame (m : TrigMode) (l : List Ref) :
    (s.handOver m l).inbox = s.inbox ∧ (s.handOver m l).scanner = s.scanner ∧ (s.handOver m l).engine = s.engine ∧
      (s.handOver m l).link = s.link ∧ (s.handOver m l).faults = s.faults ∧ (s.handOver m l).clock = s.clock ∧
      (s.handOver m l).inReset = s.inReset ∧ (s.handOver m l).pending = s.pending :=
  by unfold State.handOver; (repeat' split) <;> simp

@[simp] theorem State.notify_frame (m : TrigMode) (l : List Ref) (d : Draft) :
    (s.notify m l d).inbox = s.inbox ∧ (s.notify m l d).engine = s.engine ∧ (s.notify m l d).link = s.link ∧
      (s.notify m l d).faults = s.faults ∧ (s.notify m l d).clock = s.clock ∧ (s.notify m l d).inReset = s.inReset ∧
      (s.notify m l d).pending = s.pending := by unfold State.notify; dsimp only; split <;> simp

@[simp] theorem State.commit_frame (o : Owner) (d : Draft) :
    (s.commit o d).inbox = s.inbox ∧ (s.commit o d).engine = s.engine ∧ (s.commit o d).link = s.link ∧
      (s.commit o d).faults = s.faults ∧ (s.commit o d).clock = s.clock ∧ (s.commit o d).inReset = s.inReset ∧
      (s.commit o d).pending = s.pending := by unfold State.commit; dsimp only; split <;> simp

@[simp] theorem State.scanPanel_frame (k : BitVec 40) (p : BitVec 12) :
    (s.scanPanel k p).table = s.table ∧ (s.scanPanel k p).lamps = s.lamps ∧ (s.scanPanel k p).planner = s.planner ∧
      (s.scanPanel k p).run = s.run ∧ (s.scanPanel k p).port = s.port ∧ (s.scanPanel k p).composer = s.composer ∧
      (s.scanPanel k p).engine = s.engine ∧ (s.scanPanel k p).link = s.link ∧ (s.scanPanel k p).faults = s.faults ∧
      (s.scanPanel k p).clock = s.clock ∧ (s.scanPanel k p).inReset = s.inReset ∧ (s.scanPanel k p).out = s.out ∧
      (s.scanPanel k p).pending = s.pending := by simp [State.scanPanel]

@[simp] theorem State.sampleOne_frame (a b : BitVec 12) (k : Fin 12) :
    (s.sampleOne a b k).table = s.table ∧ (s.sampleOne a b k).lamps = s.lamps ∧ (s.sampleOne a b k).planner = s.planner ∧
      (s.sampleOne a b k).run = s.run ∧ (s.sampleOne a b k).port = s.port ∧ (s.sampleOne a b k).composer = s.composer ∧
      (s.sampleOne a b k).engine = s.engine ∧ (s.sampleOne a b k).link = s.link ∧ (s.sampleOne a b k).clock = s.clock ∧
      (s.sampleOne a b k).inReset = s.inReset ∧ (s.sampleOne a b k).out = s.out ∧
      (s.sampleOne a b k).pending = s.pending := by unfold State.sampleOne; dsimp only; (repeat' split) <;> simp

@[simp] theorem State.sampleKnobs_frame (a b : BitVec 12) :
    (s.sampleKnobs a b).table = s.table ∧ (s.sampleKnobs a b).lamps = s.lamps ∧ (s.sampleKnobs a b).planner = s.planner ∧
      (s.sampleKnobs a b).run = s.run ∧ (s.sampleKnobs a b).port = s.port ∧ (s.sampleKnobs a b).composer = s.composer ∧
      (s.sampleKnobs a b).engine = s.engine ∧ (s.sampleKnobs a b).link = s.link ∧ (s.sampleKnobs a b).clock = s.clock ∧
      (s.sampleKnobs a b).inReset = s.inReset ∧ (s.sampleKnobs a b).out = s.out ∧
      (s.sampleKnobs a b).pending = s.pending :=
  by
  unfold State.sampleKnobs
  generalize List.finRange 12 = l
  induction l generalizing s with
  | nil => simp
  | cons k l ih => simp [ih]

@[simp] theorem State.advanceTrace_frame :
    s.advanceTrace.table = s.table ∧ s.advanceTrace.inbox = s.inbox ∧ s.advanceTrace.scanner = s.scanner ∧
      s.advanceTrace.lamps = s.lamps ∧ s.advanceTrace.planner = s.planner ∧ s.advanceTrace.engine = s.engine ∧
      s.advanceTrace.link = s.link ∧ s.advanceTrace.faults = s.faults ∧ s.advanceTrace.clock = s.clock ∧
      s.advanceTrace.inReset = s.inReset ∧ s.advanceTrace.pending = s.pending :=
  by unfold State.advanceTrace; dsimp only; (repeat' split) <;> simp

@[simp] theorem State.takeReduceData_frame (f l a b : Nat) :
    (s.takeReduceData f l a b).table = s.table ∧ (s.takeReduceData f l a b).inbox = s.inbox ∧
      (s.takeReduceData f l a b).scanner = s.scanner ∧ (s.takeReduceData f l a b).lamps = s.lamps ∧
      (s.takeReduceData f l a b).planner = s.planner ∧ (s.takeReduceData f l a b).engine = s.engine ∧
      (s.takeReduceData f l a b).link = s.link ∧ (s.takeReduceData f l a b).faults = s.faults ∧
      (s.takeReduceData f l a b).clock = s.clock ∧ (s.takeReduceData f l a b).inReset = s.inReset ∧
      (s.takeReduceData f l a b).pending = s.pending :=
  by unfold State.takeReduceData; dsimp only; (repeat' split) <;> simp

@[simp] theorem State.frameStart_frame :
    s.frameStart.inbox = s.inbox ∧ s.frameStart.scanner = s.scanner ∧ s.frameStart.planner = s.planner ∧
      s.frameStart.engine = s.engine ∧ s.frameStart.link = s.link ∧ s.frameStart.faults = s.faults ∧
      s.frameStart.clock = s.clock ∧ s.frameStart.inReset = s.inReset ∧ s.frameStart.pending = s.pending :=
  by unfold State.frameStart; dsimp only; split <;> simp

@[simp] theorem State.frameStartIfDue_frame :
    s.frameStartIfDue.inbox = s.inbox ∧ s.frameStartIfDue.scanner = s.scanner ∧ s.frameStartIfDue.planner = s.planner ∧
      s.frameStartIfDue.engine = s.engine ∧ s.frameStartIfDue.link = s.link ∧ s.frameStartIfDue.faults = s.faults ∧
      s.frameStartIfDue.clock = s.clock ∧ s.frameStartIfDue.inReset = s.inReset ∧
      s.frameStartIfDue.pending = s.pending := by unfold State.frameStartIfDue; (repeat' split) <;> simp

@[simp] theorem State.frameEnd_frame :
    s.frameEnd.inbox = s.inbox ∧ s.frameEnd.scanner = s.scanner ∧ s.frameEnd.planner = s.planner ∧
      s.frameEnd.engine = s.engine ∧ s.frameEnd.link = s.link ∧ s.frameEnd.faults = s.faults ∧
      s.frameEnd.clock = s.clock ∧ s.frameEnd.inReset = s.inReset ∧ s.frameEnd.pending = s.pending :=
  by unfold State.frameEnd; dsimp only; (repeat' split) <;> simp

@[simp] theorem State.verticalBlank_frame :
    s.verticalBlank.inbox = s.inbox ∧ s.verticalBlank.scanner = s.scanner ∧ s.verticalBlank.planner = s.planner ∧
      s.verticalBlank.engine = s.engine ∧ s.verticalBlank.link = s.link ∧ s.verticalBlank.faults = s.faults ∧
      s.verticalBlank.clock = s.clock ∧ s.verticalBlank.inReset = s.inReset ∧ s.verticalBlank.pending = s.pending :=
  by unfold State.verticalBlank; (repeat' split) <;> simp

@[simp] theorem State.firstFlashOp_frame (o : FlashOp) (n : Option Nat) :
    (s.firstFlashOp o n).table = s.table ∧ (s.firstFlashOp o n).inbox = s.inbox ∧
      (s.firstFlashOp o n).scanner = s.scanner ∧ (s.firstFlashOp o n).lamps = s.lamps ∧
      (s.firstFlashOp o n).planner = s.planner ∧ (s.firstFlashOp o n).run = s.run ∧ (s.firstFlashOp o n).port = s.port ∧
      (s.firstFlashOp o n).composer = s.composer ∧ (s.firstFlashOp o n).link = s.link ∧
      (s.firstFlashOp o n).faults = s.faults ∧ (s.firstFlashOp o n).clock = s.clock ∧
      (s.firstFlashOp o n).inReset = s.inReset ∧ (s.firstFlashOp o n).pending = s.pending :=
  by unfold State.firstFlashOp; (repeat' split) <;> simp

@[simp] theorem State.startFlash_frame :
    s.startFlash.table = s.table ∧ s.startFlash.inbox = s.inbox ∧ s.startFlash.scanner = s.scanner ∧
      s.startFlash.lamps = s.lamps ∧ s.startFlash.planner = s.planner ∧ s.startFlash.run = s.run ∧
      s.startFlash.port = s.port ∧ s.startFlash.composer = s.composer ∧ s.startFlash.link = s.link ∧
      s.startFlash.faults = s.faults ∧ s.startFlash.clock = s.clock ∧ s.startFlash.inReset = s.inReset ∧
      s.startFlash.pending = s.pending := by unfold State.startFlash; (repeat' split) <;> simp

@[simp] theorem State.beginOp_frame (st : StoreState) (o : OpInHand) (p : Option Phase) :
    (s.beginOp st o p).inbox = s.inbox ∧ (s.beginOp st o p).scanner = s.scanner ∧
      (s.beginOp st o p).planner = s.planner ∧ (s.beginOp st o p).run = s.run ∧ (s.beginOp st o p).port = s.port ∧
      (s.beginOp st o p).link = s.link ∧ (s.beginOp st o p).faults = s.faults ∧ (s.beginOp st o p).clock = s.clock ∧
      (s.beginOp st o p).inReset = s.inReset ∧ (s.beginOp st o p).pending = s.pending := by simp [State.beginOp]

@[simp] theorem State.endOp_frame (o : OpInHand) (r : OpOutcome) :
    (s.endOp o r).inbox = s.inbox ∧ (s.endOp o r).scanner = s.scanner ∧ (s.endOp o r).planner = s.planner ∧
      (s.endOp o r).run = s.run ∧ (s.endOp o r).port = s.port ∧ (s.endOp o r).link = s.link ∧
      (s.endOp o r).faults = s.faults ∧ (s.endOp o r).clock = s.clock ∧ (s.endOp o r).inReset = s.inReset ∧
      (s.endOp o r).out = s.out ∧ (s.endOp o r).pending = s.pending := by simp [State.endOp]

@[simp] theorem State.failWrite_frame (o : OpInHand) (r : Reason) (e : SlotEntry) :
    (s.failWrite o r e).scanner = s.scanner ∧ (s.failWrite o r e).planner = s.planner ∧ (s.failWrite o r e).run = s.run ∧
      (s.failWrite o r e).port = s.port ∧ (s.failWrite o r e).link = s.link ∧ (s.failWrite o r e).clock = s.clock ∧
      (s.failWrite o r e).inReset = s.inReset ∧ (s.failWrite o r e).out = s.out ∧
      (s.failWrite o r e).pending = s.pending := by simp [State.failWrite]

@[simp] theorem State.failRead_frame (o : OpInHand) (r : Reason) (l : List Byte) :
    (s.failRead o r l).scanner = s.scanner ∧ (s.failRead o r l).planner = s.planner ∧ (s.failRead o r l).run = s.run ∧
      (s.failRead o r l).port = s.port ∧ (s.failRead o r l).link = s.link ∧ (s.failRead o r l).clock = s.clock ∧
      (s.failRead o r l).inReset = s.inReset ∧ (s.failRead o r l).pending = s.pending := by simp [State.failRead]

@[simp] theorem State.failTimeout_frame (o : OpInHand) :
    (s.failTimeout o).scanner = s.scanner ∧ (s.failTimeout o).planner = s.planner ∧ (s.failTimeout o).run = s.run ∧
      (s.failTimeout o).port = s.port ∧ (s.failTimeout o).link = s.link ∧ (s.failTimeout o).inReset = s.inReset ∧
      (s.failTimeout o).out = s.out ∧ (s.failTimeout o).pending = s.pending := by simp [State.failTimeout]

@[simp] theorem State.programPage_frame (n p : Nat) :
    (s.programPage n p).table = s.table ∧ (s.programPage n p).inbox = s.inbox ∧ (s.programPage n p).scanner = s.scanner ∧
      (s.programPage n p).lamps = s.lamps ∧ (s.programPage n p).planner = s.planner ∧ (s.programPage n p).run = s.run ∧
      (s.programPage n p).port = s.port ∧ (s.programPage n p).composer = s.composer ∧ (s.programPage n p).link = s.link ∧
      (s.programPage n p).faults = s.faults ∧ (s.programPage n p).clock = s.clock ∧
      (s.programPage n p).inReset = s.inReset ∧ (s.programPage n p).pending = s.pending := by simp [State.programPage]

@[simp] theorem State.storeErased_frame (b : Byte) (l : List Byte) :
    (s.storeErased b l).scanner = s.scanner ∧ (s.storeErased b l).planner = s.planner ∧ (s.storeErased b l).run = s.run ∧
      (s.storeErased b l).port = s.port ∧ (s.storeErased b l).link = s.link ∧ (s.storeErased b l).clock = s.clock ∧
      (s.storeErased b l).inReset = s.inReset ∧ (s.storeErased b l).pending = s.pending :=
  by unfold State.storeErased; (repeat' split) <;> simp

@[simp] theorem State.storeEraseTimeout_frame :
    s.storeEraseTimeout.scanner = s.scanner ∧ s.storeEraseTimeout.planner = s.planner ∧ s.storeEraseTimeout.run = s.run ∧
      s.storeEraseTimeout.port = s.port ∧ s.storeEraseTimeout.link = s.link ∧ s.storeEraseTimeout.inReset = s.inReset ∧
      s.storeEraseTimeout.pending = s.pending := by unfold State.storeEraseTimeout; (repeat' split) <;> simp

@[simp] theorem State.pageProgrammed_frame (b : Byte) (l : List Byte) :
    (s.pageProgrammed b l).scanner = s.scanner ∧ (s.pageProgrammed b l).planner = s.planner ∧
      (s.pageProgrammed b l).run = s.run ∧ (s.pageProgrammed b l).port = s.port ∧ (s.pageProgrammed b l).link = s.link ∧
      (s.pageProgrammed b l).clock = s.clock ∧ (s.pageProgrammed b l).inReset = s.inReset ∧
      (s.pageProgrammed b l).pending = s.pending := by unfold State.pageProgrammed; (repeat' split) <;> simp

@[simp] theorem State.pageTimeout_frame :
    s.pageTimeout.scanner = s.scanner ∧ s.pageTimeout.planner = s.planner ∧ s.pageTimeout.run = s.run ∧
      s.pageTimeout.port = s.port ∧ s.pageTimeout.link = s.link ∧ s.pageTimeout.inReset = s.inReset ∧
      s.pageTimeout.pending = s.pending := by unfold State.pageTimeout; (repeat' split) <;> simp

@[simp] theorem State.verifySector_frame (l : List Byte) :
    (s.verifySector l).scanner = s.scanner ∧ (s.verifySector l).planner = s.planner ∧ (s.verifySector l).run = s.run ∧
      (s.verifySector l).port = s.port ∧ (s.verifySector l).link = s.link ∧ (s.verifySector l).clock = s.clock ∧
      (s.verifySector l).inReset = s.inReset ∧ (s.verifySector l).pending = s.pending :=
  by unfold State.verifySector; (repeat' split) <;> simp

@[simp] theorem State.slotErased_frame (b : Byte) (l : List Byte) :
    (s.slotErased b l).scanner = s.scanner ∧ (s.slotErased b l).planner = s.planner ∧ (s.slotErased b l).run = s.run ∧
      (s.slotErased b l).port = s.port ∧ (s.slotErased b l).link = s.link ∧ (s.slotErased b l).clock = s.clock ∧
      (s.slotErased b l).inReset = s.inReset ∧ (s.slotErased b l).pending = s.pending :=
  by unfold State.slotErased; (repeat' split) <;> simp

@[simp] theorem State.slotEraseTimeout_frame :
    s.slotEraseTimeout.scanner = s.scanner ∧ s.slotEraseTimeout.planner = s.planner ∧ s.slotEraseTimeout.run = s.run ∧
      s.slotEraseTimeout.port = s.port ∧ s.slotEraseTimeout.link = s.link ∧ s.slotEraseTimeout.inReset = s.inReset ∧
      s.slotEraseTimeout.pending = s.pending := by unfold State.slotEraseTimeout; (repeat' split) <;> simp

@[simp] theorem State.factoryDefaults_frame :
    s.factoryDefaults.inbox = s.inbox ∧ s.factoryDefaults.engine = s.engine ∧ s.factoryDefaults.link = s.link ∧
      s.factoryDefaults.faults = s.faults ∧ s.factoryDefaults.clock = s.clock ∧ s.factoryDefaults.inReset = s.inReset ∧
      s.factoryDefaults.pending = s.pending := by simp [State.factoryDefaults]

@[simp] theorem State.defaultsInstead_frame (o : OpInHand) :
    (s.defaultsInstead o).inbox = s.inbox ∧ (s.defaultsInstead o).engine = s.engine ∧
      (s.defaultsInstead o).link = s.link ∧ (s.defaultsInstead o).faults = s.faults ∧
      (s.defaultsInstead o).clock = s.clock ∧ (s.defaultsInstead o).inReset = s.inReset ∧
      (s.defaultsInstead o).pending = s.pending := by unfold State.defaultsInstead; (repeat' split) <;> simp

@[simp] theorem State.recallSector_frame (l : List Byte) :
    (s.recallSector l).link = s.link ∧ (s.recallSector l).inReset = s.inReset ∧ (s.recallSector l).pending = s.pending :=
  by unfold State.recallSector; dsimp only; (repeat' split) <;> simp

@[simp] theorem State.recallTimeout_frame :
    s.recallTimeout.link = s.link ∧ s.recallTimeout.inReset = s.inReset ∧ s.recallTimeout.pending = s.pending :=
  by unfold State.recallTimeout; (repeat' split) <;> simp

@[simp] theorem State.applyImage_frame :
    s.applyImage.link = s.link ∧ s.applyImage.inReset = s.inReset ∧ s.applyImage.pending = s.pending :=
  by unfold State.applyImage; (repeat' split) <;> simp

@[simp] theorem State.defaultsNow_frame :
    s.defaultsNow.1.inbox = s.inbox ∧ s.defaultsNow.1.engine = s.engine ∧ s.defaultsNow.1.link = s.link ∧
      s.defaultsNow.1.faults = s.faults ∧ s.defaultsNow.1.clock = s.clock ∧ s.defaultsNow.1.inReset = s.inReset ∧
      s.defaultsNow.1.pending = s.pending := by simp [State.defaultsNow]

@[simp] theorem State.takeDefaults_frame :
    s.takeDefaults.1.inbox = s.inbox ∧ s.takeDefaults.1.link = s.link ∧ s.takeDefaults.1.faults = s.faults ∧
      s.takeDefaults.1.clock = s.clock ∧ s.takeDefaults.1.inReset = s.inReset ∧ s.takeDefaults.1.pending = s.pending :=
  by unfold State.takeDefaults; (repeat' split) <;> simp

@[simp] theorem State.beginStore_frame (n : Nat) (l : Option Text) (c : Categories) :
    (s.beginStore n l c).inbox = s.inbox ∧ (s.beginStore n l c).scanner = s.scanner ∧
      (s.beginStore n l c).planner = s.planner ∧ (s.beginStore n l c).run = s.run ∧ (s.beginStore n l c).port = s.port ∧
      (s.beginStore n l c).link = s.link ∧ (s.beginStore n l c).faults = s.faults ∧
      (s.beginStore n l c).clock = s.clock ∧ (s.beginStore n l c).inReset = s.inReset ∧
      (s.beginStore n l c).pending = s.pending := by simp [State.beginStore]

@[simp] theorem State.readAllSlots_frame (l : List Nat) :
    (l.foldl (fun s slot => s.issueFlash (.read (slotAddress slot))) s).table = s.table ∧
      (l.foldl (fun s slot => s.issueFlash (.read (slotAddress slot))) s).inbox = s.inbox ∧
      (l.foldl (fun s slot => s.issueFlash (.read (slotAddress slot))) s).scanner = s.scanner ∧
      (l.foldl (fun s slot => s.issueFlash (.read (slotAddress slot))) s).lamps = s.lamps ∧
      (l.foldl (fun s slot => s.issueFlash (.read (slotAddress slot))) s).planner = s.planner ∧
      (l.foldl (fun s slot => s.issueFlash (.read (slotAddress slot))) s).run = s.run ∧
      (l.foldl (fun s slot => s.issueFlash (.read (slotAddress slot))) s).port = s.port ∧
      (l.foldl (fun s slot => s.issueFlash (.read (slotAddress slot))) s).composer = s.composer ∧
      (l.foldl (fun s slot => s.issueFlash (.read (slotAddress slot))) s).engine = s.engine ∧
      (l.foldl (fun s slot => s.issueFlash (.read (slotAddress slot))) s).link = s.link ∧
      (l.foldl (fun s slot => s.issueFlash (.read (slotAddress slot))) s).faults = s.faults ∧
      (l.foldl (fun s slot => s.issueFlash (.read (slotAddress slot))) s).clock = s.clock ∧
      (l.foldl (fun s slot => s.issueFlash (.read (slotAddress slot))) s).inReset = s.inReset ∧
      (l.foldl (fun s slot => s.issueFlash (.read (slotAddress slot))) s).pending = s.pending :=
  by
  induction l generalizing s with
  | nil => simp
  | cons k l ih => simp [ih]

@[simp] theorem State.detectFlash_frame (a b c : Byte) :
    (s.detectFlash a b c).scanner = s.scanner ∧ (s.detectFlash a b c).planner = s.planner ∧
      (s.detectFlash a b c).run = s.run ∧ (s.detectFlash a b c).port = s.port ∧ (s.detectFlash a b c).link = s.link ∧
      (s.detectFlash a b c).clock = s.clock ∧ (s.detectFlash a b c).inReset = s.inReset ∧
      (s.detectFlash a b c).pending = s.pending :=
  by
  unfold State.detectFlash; dsimp only; (repeat' split) <;> simp [State.readAllSlots_frame]

@[simp] theorem State.detectTimeout_frame :
    s.detectTimeout.scanner = s.scanner ∧ s.detectTimeout.planner = s.planner ∧ s.detectTimeout.run = s.run ∧
      s.detectTimeout.port = s.port ∧ s.detectTimeout.link = s.link ∧ s.detectTimeout.inReset = s.inReset ∧
      s.detectTimeout.pending = s.pending := by unfold State.detectTimeout; (repeat' split) <;> simp

@[simp] theorem State.startUpFails_frame (r : Reason) :
    (s.startUpFails r).scanner = s.scanner ∧ (s.startUpFails r).planner = s.planner ∧ (s.startUpFails r).run = s.run ∧
      (s.startUpFails r).port = s.port ∧ (s.startUpFails r).link = s.link ∧ (s.startUpFails r).clock = s.clock ∧
      (s.startUpFails r).inReset = s.inReset ∧ (s.startUpFails r).pending = s.pending := by simp [State.startUpFails]

@[simp] theorem State.scanSlots_frame (l : List (List Byte)) :
    (s.scanSlots l).scanner = s.scanner ∧ (s.scanSlots l).planner = s.planner ∧ (s.scanSlots l).run = s.run ∧
      (s.scanSlots l).port = s.port ∧ (s.scanSlots l).link = s.link ∧ (s.scanSlots l).clock = s.clock ∧
      (s.scanSlots l).inReset = s.inReset ∧ (s.scanSlots l).pending = s.pending :=
  by unfold State.scanSlots; dsimp only; (repeat' split) <;> simp

@[simp] theorem State.flashReady_frame :
    s.flashReady.scanner = s.scanner ∧ s.flashReady.planner = s.planner ∧ s.flashReady.run = s.run ∧
      s.flashReady.port = s.port ∧ s.flashReady.link = s.link ∧ s.flashReady.clock = s.clock ∧
      s.flashReady.inReset = s.inReset ∧ s.flashReady.pending = s.pending :=
  by unfold State.flashReady; (repeat' split) <;> simp

@[simp] theorem State.takeFrame_frame (l : List Byte) :
    (s.takeFrame l).table = s.table ∧ (s.takeFrame l).scanner = s.scanner ∧ (s.takeFrame l).lamps = s.lamps ∧
      (s.takeFrame l).planner = s.planner ∧ (s.takeFrame l).run = s.run ∧ (s.takeFrame l).port = s.port ∧
      (s.takeFrame l).composer = s.composer ∧ (s.takeFrame l).engine = s.engine ∧ (s.takeFrame l).clock = s.clock ∧
      (s.takeFrame l).inReset = s.inReset ∧ (s.takeFrame l).out = s.out ∧ (s.takeFrame l).pending = s.pending :=
  by unfold State.takeFrame; dsimp only; (repeat' split) <;> simp

@[simp] theorem State.takeHeld_frame :
    s.takeHeld.table = s.table ∧ s.takeHeld.scanner = s.scanner ∧ s.takeHeld.lamps = s.lamps ∧
      s.takeHeld.planner = s.planner ∧ s.takeHeld.run = s.run ∧ s.takeHeld.port = s.port ∧
      s.takeHeld.composer = s.composer ∧ s.takeHeld.engine = s.engine ∧ s.takeHeld.clock = s.clock ∧
      s.takeHeld.inReset = s.inReset ∧ s.takeHeld.out = s.out ∧ s.takeHeld.pending = s.pending :=
  by unfold State.takeHeld; (repeat' split) <;> simp

@[simp] theorem State.answer_frame (k : Byte) (r : Reply) :
    (s.answer k r).table = s.table ∧ (s.answer k r).scanner = s.scanner ∧ (s.answer k r).lamps = s.lamps ∧
      (s.answer k r).planner = s.planner ∧ (s.answer k r).run = s.run ∧ (s.answer k r).port = s.port ∧
      (s.answer k r).composer = s.composer ∧ (s.answer k r).engine = s.engine ∧ (s.answer k r).clock = s.clock ∧
      (s.answer k r).inReset = s.inReset ∧ (s.answer k r).out = s.out ∧ (s.answer k r).pending = s.pending :=
  by simp [State.answer]

@[simp] theorem State.writePeriod_frame (l : List Byte) :
    (s.writePeriod l).table = s.table ∧ (s.writePeriod l).scanner = s.scanner ∧ (s.writePeriod l).lamps = s.lamps ∧
      (s.writePeriod l).planner = s.planner ∧ (s.writePeriod l).run = s.run ∧ (s.writePeriod l).port = s.port ∧
      (s.writePeriod l).composer = s.composer ∧ (s.writePeriod l).engine = s.engine ∧ (s.writePeriod l).clock = s.clock ∧
      (s.writePeriod l).inReset = s.inReset ∧ (s.writePeriod l).pending = s.pending :=
  by unfold State.writePeriod; dsimp only; (repeat' split) <;> simp

@[simp] theorem State.readPeriod_frame (n : Nat) :
    (s.readPeriod n).table = s.table ∧ (s.readPeriod n).inbox = s.inbox ∧ (s.readPeriod n).scanner = s.scanner ∧
      (s.readPeriod n).lamps = s.lamps ∧ (s.readPeriod n).planner = s.planner ∧ (s.readPeriod n).run = s.run ∧
      (s.readPeriod n).port = s.port ∧ (s.readPeriod n).composer = s.composer ∧ (s.readPeriod n).engine = s.engine ∧
      (s.readPeriod n).link = s.link ∧ (s.readPeriod n).faults = s.faults ∧ (s.readPeriod n).clock = s.clock ∧
      (s.readPeriod n).inReset = s.inReset ∧ (s.readPeriod n).pending = s.pending := by simp [State.readPeriod]

end Sys2Proof.Machine
end

