-- ==== Sys2Proof/Laws/Rows.lean ====
section
/-! SUPPORT. What the blocks' answers to the request rows, and the effects of the other rows, leave as it was. -/

namespace Sys2Proof.Machine

variable (s : State)

@[simp] theorem identifyRequest_frame (b : List Byte) :
    (identifyRequest b s).1.table = s.table ∧ (identifyRequest b s).1.inbox = s.inbox ∧
      (identifyRequest b s).1.scanner = s.scanner ∧ (identifyRequest b s).1.lamps = s.lamps ∧
      (identifyRequest b s).1.planner = s.planner ∧ (identifyRequest b s).1.run = s.run ∧
      (identifyRequest b s).1.port = s.port ∧ (identifyRequest b s).1.composer = s.composer ∧
      (identifyRequest b s).1.engine = s.engine ∧ (identifyRequest b s).1.link = s.link ∧
      (identifyRequest b s).1.faults = s.faults ∧ (identifyRequest b s).1.clock = s.clock ∧
      (identifyRequest b s).1.inReset = s.inReset ∧ (identifyRequest b s).1.out = s.out ∧
      (identifyRequest b s).1.pending = s.pending :=
  by unfold identifyRequest; (repeat' split) <;> simp

@[simp] theorem lookupRequest_frame (b : List Byte) :
    (lookupRequest b s).1.table = s.table ∧ (lookupRequest b s).1.inbox = s.inbox ∧
      (lookupRequest b s).1.scanner = s.scanner ∧ (lookupRequest b s).1.lamps = s.lamps ∧
      (lookupRequest b s).1.planner = s.planner ∧ (lookupRequest b s).1.run = s.run ∧
      (lookupRequest b s).1.port = s.port ∧ (lookupRequest b s).1.composer = s.composer ∧
      (lookupRequest b s).1.engine = s.engine ∧ (lookupRequest b s).1.link = s.link ∧
      (lookupRequest b s).1.faults = s.faults ∧ (lookupRequest b s).1.clock = s.clock ∧
      (lookupRequest b s).1.inReset = s.inReset ∧ (lookupRequest b s).1.out = s.out ∧
      (lookupRequest b s).1.pending = s.pending := by unfold lookupRequest; dsimp only; (repeat' split) <;> simp

@[simp] theorem amendRecord_frame (k : RecKey) (i : Items) :
    (amendRecord k i s).1.inbox = s.inbox ∧ (amendRecord k i s).1.engine = s.engine ∧
      (amendRecord k i s).1.link = s.link ∧ (amendRecord k i s).1.faults = s.faults ∧
      (amendRecord k i s).1.clock = s.clock ∧ (amendRecord k i s).1.inReset = s.inReset ∧
      (amendRecord k i s).1.pending = s.pending := by simp [amendRecord]

@[simp] theorem amendRequest_frame (b : List Byte) :
    (amendRequest b s).1.inbox = s.inbox ∧ (amendRequest b s).1.engine = s.engine ∧ (amendRequest b s).1.link = s.link ∧
      (amendRequest b s).1.faults = s.faults ∧ (amendRequest b s).1.clock = s.clock ∧
      (amendRequest b s).1.inReset = s.inReset ∧ (amendRequest b s).1.pending = s.pending :=
  by unfold amendRequest; dsimp only; (repeat' split) <;> simp

@[simp] theorem createRecord_frame (k : RecKey) (i : Items) :
    (createRecord k i s).1.inbox = s.inbox ∧ (createRecord k i s).1.engine = s.engine ∧
      (createRecord k i s).1.link = s.link ∧ (createRecord k i s).1.faults = s.faults ∧
      (createRecord k i s).1.clock = s.clock ∧ (createRecord k i s).1.inReset = s.inReset ∧
      (createRecord k i s).1.pending = s.pending := by simp [createRecord]

@[simp] theorem createRequest_frame (b : List Byte) :
    (createRequest b s).1.inbox = s.inbox ∧ (createRequest b s).1.engine = s.engine ∧
      (createRequest b s).1.link = s.link ∧ (createRequest b s).1.faults = s.faults ∧
      (createRequest b s).1.clock = s.clock ∧ (createRequest b s).1.inReset = s.inReset ∧
      (createRequest b s).1.pending = s.pending := by unfold createRequest; dsimp only; (repeat' split) <;> simp

@[simp] theorem retireRequest_frame (b : List Byte) :
    (retireRequest b s).1.inbox = s.inbox ∧ (retireRequest b s).1.engine = s.engine ∧
      (retireRequest b s).1.link = s.link ∧ (retireRequest b s).1.faults = s.faults ∧
      (retireRequest b s).1.clock = s.clock ∧ (retireRequest b s).1.inReset = s.inReset ∧
      (retireRequest b s).1.pending = s.pending := by unfold retireRequest; (repeat' split) <;> simp

@[simp] theorem collectRequest_frame (b : List Byte) :
    (collectRequest b s).1.inbox = s.inbox ∧ (collectRequest b s).1.scanner = s.scanner ∧
      (collectRequest b s).1.lamps = s.lamps ∧ (collectRequest b s).1.planner = s.planner ∧
      (collectRequest b s).1.run = s.run ∧ (collectRequest b s).1.port = s.port ∧
      (collectRequest b s).1.composer = s.composer ∧ (collectRequest b s).1.engine = s.engine ∧
      (collectRequest b s).1.link = s.link ∧ (collectRequest b s).1.faults = s.faults ∧
      (collectRequest b s).1.clock = s.clock ∧ (collectRequest b s).1.inReset = s.inReset ∧
      (collectRequest b s).1.out = s.out ∧ (collectRequest b s).1.pending = s.pending :=
  by unfold collectRequest; (repeat' split) <;> simp

@[simp] theorem acceptIntent_frame (k : RecKey) (i : Intent) :
    (acceptIntent k i s).1.inbox = s.inbox ∧ (acceptIntent k i s).1.link = s.link ∧
      (acceptIntent k i s).1.faults = s.faults ∧ (acceptIntent k i s).1.clock = s.clock ∧
      (acceptIntent k i s).1.inReset = s.inReset ∧ (acceptIntent k i s).1.pending = s.pending :=
  by unfold acceptIntent; dsimp only; (repeat' split) <;> simp

@[simp] theorem intentAcceptRequest_frame (b : List Byte) :
    (intentAcceptRequest b s).1.inbox = s.inbox ∧ (intentAcceptRequest b s).1.link = s.link ∧
      (intentAcceptRequest b s).1.faults = s.faults ∧ (intentAcceptRequest b s).1.clock = s.clock ∧
      (intentAcceptRequest b s).1.inReset = s.inReset ∧ (intentAcceptRequest b s).1.pending = s.pending :=
  by unfold intentAcceptRequest; (repeat' split) <;> simp

@[simp] theorem intentDropRequest_frame (b : List Byte) :
    (intentDropRequest b s).1.inbox = s.inbox ∧ (intentDropRequest b s).1.scanner = s.scanner ∧
      (intentDropRequest b s).1.lamps = s.lamps ∧ (intentDropRequest b s).1.planner = s.planner ∧
      (intentDropRequest b s).1.run = s.run ∧ (intentDropRequest b s).1.port = s.port ∧
      (intentDropRequest b s).1.composer = s.composer ∧ (intentDropRequest b s).1.engine = s.engine ∧
      (intentDropRequest b s).1.link = s.link ∧ (intentDropRequest b s).1.faults = s.faults ∧
      (intentDropRequest b s).1.clock = s.clock ∧ (intentDropRequest b s).1.inReset = s.inReset ∧
      (intentDropRequest b s).1.out = s.out ∧ (intentDropRequest b s).1.pending = s.pending :=
  by unfold intentDropRequest; (repeat' split) <;> simp

@[simp] theorem defaultsRequest_frame (b : List Byte) :
    (defaultsRequest b s).1.inbox = s.inbox ∧ (defaultsRequest b s).1.link = s.link ∧
      (defaultsRequest b s).1.faults = s.faults ∧ (defaultsRequest b s).1.clock = s.clock ∧
      (defaultsRequest b s).1.inReset = s.inReset ∧ (defaultsRequest b s).1.pending = s.pending :=
  by unfold defaultsRequest; dsimp only; (repeat' split) <;> simp

@[simp] theorem forceRequest_frame (b : List Byte) :
    (forceRequest b s).1.table = s.table ∧ (forceRequest b s).1.inbox = s.inbox ∧
      (forceRequest b s).1.scanner = s.scanner ∧ (forceRequest b s).1.lamps = s.lamps ∧
      (forceRequest b s).1.planner = s.planner ∧ (forceRequest b s).1.engine = s.engine ∧
      (forceRequest b s).1.link = s.link ∧ (forceRequest b s).1.faults = s.faults ∧
      (forceRequest b s).1.clock = s.clock ∧ (forceRequest b s).1.inReset = s.inReset ∧
      (forceRequest b s).1.pending = s.pending := by unfold forceRequest; dsimp only; (repeat' split) <;> simp

@[simp] theorem storeRequest_frame (b : List Byte) :
    (storeRequest b s).1.inbox = s.inbox ∧ (storeRequest b s).1.scanner = s.scanner ∧
      (storeRequest b s).1.planner = s.planner ∧ (storeRequest b s).1.run = s.run ∧ (storeRequest b s).1.port = s.port ∧
      (storeRequest b s).1.link = s.link ∧ (storeRequest b s).1.faults = s.faults ∧
      (storeRequest b s).1.clock = s.clock ∧ (storeRequest b s).1.inReset = s.inReset ∧
      (storeRequest b s).1.pending = s.pending := by unfold storeRequest; dsimp only; (repeat' split) <;> simp

@[simp] theorem recallRequest_frame (b : List Byte) :
    (recallRequest b s).1.inbox = s.inbox ∧ (recallRequest b s).1.scanner = s.scanner ∧
      (recallRequest b s).1.planner = s.planner ∧ (recallRequest b s).1.run = s.run ∧
      (recallRequest b s).1.port = s.port ∧ (recallRequest b s).1.link = s.link ∧
      (recallRequest b s).1.faults = s.faults ∧ (recallRequest b s).1.clock = s.clock ∧
      (recallRequest b s).1.inReset = s.inReset ∧ (recallRequest b s).1.pending = s.pending :=
  by unfold recallRequest; (repeat' split) <;> simp

@[simp] theorem eraseRequest_frame (b : List Byte) :
    (eraseRequest b s).1.inbox = s.inbox ∧ (eraseRequest b s).1.scanner = s.scanner ∧
      (eraseRequest b s).1.planner = s.planner ∧ (eraseRequest b s).1.run = s.run ∧ (eraseRequest b s).1.port = s.port ∧
      (eraseRequest b s).1.link = s.link ∧ (eraseRequest b s).1.faults = s.faults ∧
      (eraseRequest b s).1.clock = s.clock ∧ (eraseRequest b s).1.inReset = s.inReset ∧
      (eraseRequest b s).1.pending = s.pending := by unfold eraseRequest; (repeat' split) <;> simp

@[simp] theorem directoryRequest_frame (b : List Byte) :
    (directoryRequest b s).1.table = s.table ∧ (directoryRequest b s).1.inbox = s.inbox ∧
      (directoryRequest b s).1.scanner = s.scanner ∧ (directoryRequest b s).1.lamps = s.lamps ∧
      (directoryRequest b s).1.planner = s.planner ∧ (directoryRequest b s).1.run = s.run ∧
      (directoryRequest b s).1.port = s.port ∧ (directoryRequest b s).1.composer = s.composer ∧
      (directoryRequest b s).1.engine = s.engine ∧ (directoryRequest b s).1.link = s.link ∧
      (directoryRequest b s).1.faults = s.faults ∧ (directoryRequest b s).1.clock = s.clock ∧
      (directoryRequest b s).1.inReset = s.inReset ∧ (directoryRequest b s).1.out = s.out ∧
      (directoryRequest b s).1.pending = s.pending :=
  by unfold directoryRequest; (repeat' split) <;> simp

@[simp] theorem storageStatusRequest_frame (b : List Byte) :
    (storageStatusRequest b s).1.table = s.table ∧ (storageStatusRequest b s).1.inbox = s.inbox ∧
      (storageStatusRequest b s).1.scanner = s.scanner ∧ (storageStatusRequest b s).1.lamps = s.lamps ∧
      (storageStatusRequest b s).1.planner = s.planner ∧ (storageStatusRequest b s).1.run = s.run ∧
      (storageStatusRequest b s).1.port = s.port ∧ (storageStatusRequest b s).1.composer = s.composer ∧
      (storageStatusRequest b s).1.link = s.link ∧ (storageStatusRequest b s).1.faults = s.faults ∧
      (storageStatusRequest b s).1.clock = s.clock ∧ (storageStatusRequest b s).1.inReset = s.inReset ∧
      (storageStatusRequest b s).1.out = s.out ∧ (storageStatusRequest b s).1.pending = s.pending :=
  by unfold storageStatusRequest; dsimp only; (repeat' split) <;> simp

@[simp] theorem protectRequest_frame (b : List Byte) :
    (protectRequest b s).1.table = s.table ∧ (protectRequest b s).1.inbox = s.inbox ∧
      (protectRequest b s).1.scanner = s.scanner ∧ (protectRequest b s).1.lamps = s.lamps ∧
      (protectRequest b s).1.planner = s.planner ∧ (protectRequest b s).1.run = s.run ∧
      (protectRequest b s).1.port = s.port ∧ (protectRequest b s).1.composer = s.composer ∧
      (protectRequest b s).1.link = s.link ∧ (protectRequest b s).1.faults = s.faults ∧
      (protectRequest b s).1.clock = s.clock ∧ (protectRequest b s).1.inReset = s.inReset ∧
      (protectRequest b s).1.out = s.out ∧ (protectRequest b s).1.pending = s.pending :=
  by unfold protectRequest; (repeat' split) <;> simp

@[simp] theorem faultsReadRequest_frame (b : List Byte) :
    (faultsReadRequest b s).1.table = s.table ∧ (faultsReadRequest b s).1.inbox = s.inbox ∧
      (faultsReadRequest b s).1.scanner = s.scanner ∧ (faultsReadRequest b s).1.lamps = s.lamps ∧
      (faultsReadRequest b s).1.planner = s.planner ∧ (faultsReadRequest b s).1.run = s.run ∧
      (faultsReadRequest b s).1.port = s.port ∧ (faultsReadRequest b s).1.composer = s.composer ∧
      (faultsReadRequest b s).1.engine = s.engine ∧ (faultsReadRequest b s).1.link = s.link ∧
      (faultsReadRequest b s).1.faults = s.faults ∧ (faultsReadRequest b s).1.clock = s.clock ∧
      (faultsReadRequest b s).1.inReset = s.inReset ∧ (faultsReadRequest b s).1.out = s.out ∧
      (faultsReadRequest b s).1.pending = s.pending :=
  by unfold faultsReadRequest; (repeat' split) <;> simp

@[simp] theorem faultsClearRequest_frame (b : List Byte) :
    (faultsClearRequest b s).1.table = s.table ∧ (faultsClearRequest b s).1.inbox = s.inbox ∧
      (faultsClearRequest b s).1.scanner = s.scanner ∧ (faultsClearRequest b s).1.lamps = s.lamps ∧
      (faultsClearRequest b s).1.planner = s.planner ∧ (faultsClearRequest b s).1.run = s.run ∧
      (faultsClearRequest b s).1.port = s.port ∧ (faultsClearRequest b s).1.composer = s.composer ∧
      (faultsClearRequest b s).1.engine = s.engine ∧ (faultsClearRequest b s).1.link = s.link ∧
      (faultsClearRequest b s).1.clock = s.clock ∧ (faultsClearRequest b s).1.inReset = s.inReset ∧
      (faultsClearRequest b s).1.out = s.out ∧ (faultsClearRequest b s).1.pending = s.pending :=
  by unfold faultsClearRequest; dsimp only; (repeat' split) <;> simp

@[simp] theorem faultsSetupRequest_frame (b : List Byte) :
    (faultsSetupRequest b s).1.table = s.table ∧ (faultsSetupRequest b s).1.inbox = s.inbox ∧
      (faultsSetupRequest b s).1.scanner = s.scanner ∧ (faultsSetupRequest b s).1.lamps = s.lamps ∧
      (faultsSetupRequest b s).1.planner = s.planner ∧ (faultsSetupRequest b s).1.run = s.run ∧
      (faultsSetupRequest b s).1.port = s.port ∧ (faultsSetupRequest b s).1.composer = s.composer ∧
      (faultsSetupRequest b s).1.engine = s.engine ∧ (faultsSetupRequest b s).1.link = s.link ∧
      (faultsSetupRequest b s).1.clock = s.clock ∧ (faultsSetupRequest b s).1.inReset = s.inReset ∧
      (faultsSetupRequest b s).1.out = s.out ∧ (faultsSetupRequest b s).1.pending = s.pending :=
  by unfold faultsSetupRequest; dsimp only; (repeat' split) <;> simp

@[simp] theorem State.takeOwnerRun_frame :
    s.takeOwnerRun.engine = s.engine ∧ s.takeOwnerRun.link = s.link ∧ s.takeOwnerRun.faults = s.faults ∧
      s.takeOwnerRun.clock = s.clock ∧ s.takeOwnerRun.inReset = s.inReset ∧ s.takeOwnerRun.pending = s.pending :=
  by unfold State.takeOwnerRun; dsimp only; (repeat' split) <;> simp

@[simp] theorem State.takeOwnerFault_frame :
    s.takeOwnerFault.engine = s.engine ∧ s.takeOwnerFault.link = s.link ∧ s.takeOwnerFault.faults = s.faults ∧
      s.takeOwnerFault.clock = s.clock ∧ s.takeOwnerFault.inReset = s.inReset ∧ s.takeOwnerFault.pending = s.pending :=
  by unfold State.takeOwnerFault; dsimp only; (repeat' split) <;> simp

@[simp] theorem State.refuse_frame (c : Control) (k : ActionKind) (r : Ref) (u : Bool) (v : Option Value) :
    (s.refuse c k r u v).inbox = s.inbox ∧ (s.refuse c k r u v).scanner = s.scanner ∧
      (s.refuse c k r u v).planner = s.planner ∧ (s.refuse c k r u v).run = s.run ∧ (s.refuse c k r u v).port = s.port ∧
      (s.refuse c k r u v).composer = s.composer ∧ (s.refuse c k r u v).engine = s.engine ∧
      (s.refuse c k r u v).link = s.link ∧ (s.refuse c k r u v).faults = s.faults ∧
      (s.refuse c k r u v).clock = s.clock ∧ (s.refuse c k r u v).inReset = s.inReset ∧
      (s.refuse c k r u v).out = s.out ∧ (s.refuse c k r u v).pending = s.pending := by simp [State.refuse]

@[simp] theorem State.refuseDetent_frame (k : Fin 12) (r : Ref) (d : Dir) :
    (s.refuseDetent k r d).inbox = s.inbox ∧ (s.refuseDetent k r d).scanner = s.scanner ∧
      (s.refuseDetent k r d).planner = s.planner ∧ (s.refuseDetent k r d).run = s.run ∧
      (s.refuseDetent k r d).port = s.port ∧ (s.refuseDetent k r d).composer = s.composer ∧
      (s.refuseDetent k r d).engine = s.engine ∧ (s.refuseDetent k r d).link = s.link ∧
      (s.refuseDetent k r d).faults = s.faults ∧ (s.refuseDetent k r d).clock = s.clock ∧
      (s.refuseDetent k r d).inReset = s.inReset ∧ (s.refuseDetent k r d).out = s.out ∧
      (s.refuseDetent k r d).pending = s.pending := by unfold State.refuseDetent; split <;> simp

@[simp] theorem State.panelEvent_frame (w : Table × List (Field × FieldOutcome)) :
    (s.panelEvent w).inbox = s.inbox ∧ (s.panelEvent w).engine = s.engine ∧ (s.panelEvent w).link = s.link ∧
      (s.panelEvent w).faults = s.faults ∧ (s.panelEvent w).clock = s.clock ∧ (s.panelEvent w).inReset = s.inReset ∧
      (s.panelEvent w).pending = s.pending := by simp [State.panelEvent]

@[simp] theorem State.doPress_frame (k : Fin 40) (a : KeyAction) (r : Ref) (v : Option Value) :
    (s.doPress k a r v).inbox = s.inbox ∧ (s.doPress k a r v).link = s.link ∧ (s.doPress k a r v).faults = s.faults ∧
      (s.doPress k a r v).clock = s.clock ∧ (s.doPress k a r v).inReset = s.inReset ∧
      (s.doPress k a r v).pending = s.pending := by unfold State.doPress; dsimp only; (repeat' split) <;> simp

@[simp] theorem State.takeAction_frame (p : PanelAction) :
    (s.takeAction p).inbox = s.inbox ∧ (s.takeAction p).link = s.link ∧ (s.takeAction p).faults = s.faults ∧
      (s.takeAction p).clock = s.clock ∧ (s.takeAction p).inReset = s.inReset ∧ (s.takeAction p).pending = s.pending :=
  by unfold State.takeAction; (repeat' split) <;> simp

@[simp] theorem State.takeWaiting_frame (p : PanelAction → Bool) :
    (s.takeWaiting p).link = s.link ∧ (s.takeWaiting p).faults = s.faults ∧ (s.takeWaiting p).clock = s.clock ∧
      (s.takeWaiting p).inReset = s.inReset ∧ (s.takeWaiting p).pending = s.pending :=
  by unfold State.takeWaiting; dsimp only; (repeat' split) <;> simp

@[simp] theorem State.repeatPress_frame (k : Fin 40) (b : Keybind) :
    (s.repeatPress k b).link = s.link ∧ (s.repeatPress k b).faults = s.faults ∧ (s.repeatPress k b).clock = s.clock ∧
      (s.repeatPress k b).inReset = s.inReset ∧ (s.repeatPress k b).pending = s.pending :=
  by unfold State.repeatPress; dsimp only; (repeat' split) <;> simp

@[simp] theorem State.repeatExpiry_frame (k : Fin 40) :
    (s.repeatExpiry k).link = s.link ∧ (s.repeatExpiry k).faults = s.faults ∧ (s.repeatExpiry k).inReset = s.inReset ∧
      (s.repeatExpiry k).pending = s.pending :=
  by unfold State.repeatExpiry; (repeat' split) <;> simp

@[simp] theorem State.keyScan_frame (k : BitVec 40) (p : BitVec 12) :
    (s.keyScan k p).table = s.table ∧ (s.keyScan k p).lamps = s.lamps ∧ (s.keyScan k p).planner = s.planner ∧
      (s.keyScan k p).run = s.run ∧ (s.keyScan k p).port = s.port ∧ (s.keyScan k p).composer = s.composer ∧
      (s.keyScan k p).engine = s.engine ∧ (s.keyScan k p).link = s.link ∧ (s.keyScan k p).faults = s.faults ∧
      (s.keyScan k p).inReset = s.inReset ∧ (s.keyScan k p).out = s.out ∧ (s.keyScan k p).pending = s.pending :=
  by simp [State.keyScan]

@[simp] theorem State.knobSample_frame (a b : BitVec 12) :
    (s.knobSample a b).table = s.table ∧ (s.knobSample a b).lamps = s.lamps ∧ (s.knobSample a b).planner = s.planner ∧
      (s.knobSample a b).run = s.run ∧ (s.knobSample a b).port = s.port ∧ (s.knobSample a b).composer = s.composer ∧
      (s.knobSample a b).engine = s.engine ∧ (s.knobSample a b).link = s.link ∧ (s.knobSample a b).inReset = s.inReset ∧
      (s.knobSample a b).out = s.out ∧ (s.knobSample a b).pending = s.pending := by simp [State.knobSample]

@[simp] theorem State.senseLamp_frame (o : BitVec 24) (k : Nat) :
    (s.senseLamp o k).table = s.table ∧ (s.senseLamp o k).scanner = s.scanner ∧ (s.senseLamp o k).planner = s.planner ∧
      (s.senseLamp o k).run = s.run ∧ (s.senseLamp o k).port = s.port ∧ (s.senseLamp o k).composer = s.composer ∧
      (s.senseLamp o k).engine = s.engine ∧ (s.senseLamp o k).link = s.link ∧ (s.senseLamp o k).clock = s.clock ∧
      (s.senseLamp o k).inReset = s.inReset ∧ (s.senseLamp o k).out = s.out ∧ (s.senseLamp o k).pending = s.pending :=
  by unfold State.senseLamp; dsimp only; (repeat' split) <;> simp

@[simp] theorem State.senseLamps_frame (o : BitVec 24) (l : List Nat) :
    (l.foldl (State.senseLamp o) s).table = s.table ∧ (l.foldl (State.senseLamp o) s).scanner = s.scanner ∧
      (l.foldl (State.senseLamp o) s).planner = s.planner ∧ (l.foldl (State.senseLamp o) s).run = s.run ∧
      (l.foldl (State.senseLamp o) s).port = s.port ∧ (l.foldl (State.senseLamp o) s).composer = s.composer ∧
      (l.foldl (State.senseLamp o) s).engine = s.engine ∧ (l.foldl (State.senseLamp o) s).link = s.link ∧
      (l.foldl (State.senseLamp o) s).clock = s.clock ∧ (l.foldl (State.senseLamp o) s).inReset = s.inReset ∧
      (l.foldl (State.senseLamp o) s).out = s.out ∧ (l.foldl (State.senseLamp o) s).pending = s.pending :=
  by
  induction l generalizing s with
  | nil => simp
  | cons k l ih => simp [ih]

@[simp] theorem State.lampPeriod_frame (o : BitVec 24) :
    (s.lampPeriod o).table = s.table ∧ (s.lampPeriod o).scanner = s.scanner ∧ (s.lampPeriod o).planner = s.planner ∧
      (s.lampPeriod o).run = s.run ∧ (s.lampPeriod o).port = s.port ∧ (s.lampPeriod o).composer = s.composer ∧
      (s.lampPeriod o).engine = s.engine ∧ (s.lampPeriod o).link = s.link ∧ (s.lampPeriod o).inReset = s.inReset ∧
      (s.lampPeriod o).out = s.out ∧ (s.lampPeriod o).pending = s.pending := by simp [State.lampPeriod]

@[simp] theorem State.blinkPhase_frame (k : Fin 24) :
    (s.blinkPhase k).table = s.table ∧ (s.blinkPhase k).inbox = s.inbox ∧ (s.blinkPhase k).scanner = s.scanner ∧
      (s.blinkPhase k).planner = s.planner ∧ (s.blinkPhase k).run = s.run ∧ (s.blinkPhase k).port = s.port ∧
      (s.blinkPhase k).composer = s.composer ∧ (s.blinkPhase k).engine = s.engine ∧ (s.blinkPhase k).link = s.link ∧
      (s.blinkPhase k).faults = s.faults ∧ (s.blinkPhase k).inReset = s.inReset ∧ (s.blinkPhase k).out = s.out ∧
      (s.blinkPhase k).pending = s.pending := by unfold State.blinkPhase; dsimp only; (repeat' split) <;> simp

@[simp] theorem State.flashPhase_frame :
    s.flashPhase.table = s.table ∧ s.flashPhase.inbox = s.inbox ∧ s.flashPhase.scanner = s.scanner ∧
      s.flashPhase.planner = s.planner ∧ s.flashPhase.run = s.run ∧ s.flashPhase.port = s.port ∧
      s.flashPhase.composer = s.composer ∧ s.flashPhase.engine = s.engine ∧ s.flashPhase.link = s.link ∧
      s.flashPhase.faults = s.faults ∧ s.flashPhase.inReset = s.inReset ∧ s.flashPhase.out = s.out ∧
      s.flashPhase.pending = s.pending := by simp [State.flashPhase]

@[simp] theorem State.onAck_frame (l : List Byte) :
    (s.takeMessage onAck l).inbox = s.inbox ∧ (s.takeMessage onAck l).scanner = s.scanner ∧
      (s.takeMessage onAck l).planner = s.planner ∧ (s.takeMessage onAck l).engine = s.engine ∧
      (s.takeMessage onAck l).link = s.link ∧ (s.takeMessage onAck l).faults = s.faults ∧
      (s.takeMessage onAck l).clock = s.clock ∧ (s.takeMessage onAck l).inReset = s.inReset ∧
      (s.takeMessage onAck l).pending = s.pending := by
  unfold State.takeMessage onAck; (repeat' split) <;> simp

@[simp] theorem State.onReduceData_frame (l : List Byte) :
    (s.takeMessage onReduceData l).table = s.table ∧ (s.takeMessage onReduceData l).inbox = s.inbox ∧
      (s.takeMessage onReduceData l).scanner = s.scanner ∧ (s.takeMessage onReduceData l).lamps = s.lamps ∧
      (s.takeMessage onReduceData l).planner = s.planner ∧ (s.takeMessage onReduceData l).engine = s.engine ∧
      (s.takeMessage onReduceData l).link = s.link ∧ (s.takeMessage onReduceData l).faults = s.faults ∧
      (s.takeMessage onReduceData l).clock = s.clock ∧ (s.takeMessage onReduceData l).inReset = s.inReset ∧
      (s.takeMessage onReduceData l).pending = s.pending :=
  by
  unfold State.takeMessage onReduceData; (repeat' split) <;> simp

@[simp] theorem State.onHello_frame (l : List Byte) :
    (s.takeMessage onHello l).inbox = s.inbox ∧ (s.takeMessage onHello l).scanner = s.scanner ∧
      (s.takeMessage onHello l).planner = s.planner ∧ (s.takeMessage onHello l).engine = s.engine ∧
      (s.takeMessage onHello l).link = s.link ∧ (s.takeMessage onHello l).faults = s.faults ∧
      (s.takeMessage onHello l).clock = s.clock ∧ (s.takeMessage onHello l).inReset = s.inReset ∧
      (s.takeMessage onHello l).pending = s.pending := by
  unfold State.takeMessage onHello; (repeat' split) <;> simp

@[simp] theorem State.onPrefilled_frame (l : List Byte) :
    (s.takeMessage onPrefilled l).inbox = s.inbox ∧ (s.takeMessage onPrefilled l).scanner = s.scanner ∧
      (s.takeMessage onPrefilled l).planner = s.planner ∧ (s.takeMessage onPrefilled l).engine = s.engine ∧
      (s.takeMessage onPrefilled l).link = s.link ∧ (s.takeMessage onPrefilled l).faults = s.faults ∧
      (s.takeMessage onPrefilled l).clock = s.clock ∧ (s.takeMessage onPrefilled l).inReset = s.inReset ∧
      (s.takeMessage onPrefilled l).pending = s.pending :=
  by
  unfold State.takeMessage onPrefilled; (repeat' split) <;> first | simp | (unfold State.onNotice; split <;> simp)

@[simp] theorem State.onTriggered_frame (l : List Byte) :
    (s.takeMessage onTriggered l).inbox = s.inbox ∧ (s.takeMessage onTriggered l).scanner = s.scanner ∧
      (s.takeMessage onTriggered l).planner = s.planner ∧ (s.takeMessage onTriggered l).engine = s.engine ∧
      (s.takeMessage onTriggered l).link = s.link ∧ (s.takeMessage onTriggered l).faults = s.faults ∧
      (s.takeMessage onTriggered l).clock = s.clock ∧ (s.takeMessage onTriggered l).inReset = s.inReset ∧
      (s.takeMessage onTriggered l).pending = s.pending :=
  by
  unfold State.takeMessage onTriggered; (repeat' split) <;> first | simp | (unfold State.onNotice; split <;> simp)

@[simp] theorem State.onComplete_frame (l : List Byte) :
    (s.takeMessage onComplete l).scanner = s.scanner ∧ (s.takeMessage onComplete l).planner = s.planner ∧
      (s.takeMessage onComplete l).engine = s.engine ∧ (s.takeMessage onComplete l).link = s.link ∧
      (s.takeMessage onComplete l).faults = s.faults ∧ (s.takeMessage onComplete l).clock = s.clock ∧
      (s.takeMessage onComplete l).inReset = s.inReset ∧ (s.takeMessage onComplete l).pending = s.pending :=
  by
  unfold State.takeMessage onComplete; (repeat' split) <;> first | simp | (unfold State.onNotice; split <;> simp)

@[simp] theorem State.onFault_frame (l : List Byte) :
    (s.takeMessage onFault l).table = s.table ∧ (s.takeMessage onFault l).scanner = s.scanner ∧
      (s.takeMessage onFault l).lamps = s.lamps ∧ (s.takeMessage onFault l).planner = s.planner ∧
      (s.takeMessage onFault l).run = s.run ∧ (s.takeMessage onFault l).port = s.port ∧
      (s.takeMessage onFault l).composer = s.composer ∧ (s.takeMessage onFault l).engine = s.engine ∧
      (s.takeMessage onFault l).link = s.link ∧ (s.takeMessage onFault l).clock = s.clock ∧
      (s.takeMessage onFault l).inReset = s.inReset ∧ (s.takeMessage onFault l).out = s.out ∧
      (s.takeMessage onFault l).pending = s.pending :=
  by
  unfold State.takeMessage onFault; (repeat' split) <;> simp

@[simp] theorem State.portDeadline_frame :
    s.portDeadline.scanner = s.scanner ∧ s.portDeadline.planner = s.planner ∧ s.portDeadline.engine = s.engine ∧
      s.portDeadline.link = s.link ∧ s.portDeadline.inReset = s.inReset ∧ s.portDeadline.pending = s.pending :=
  by unfold State.portDeadline; (repeat' split) <;> simp

@[simp] theorem State.queryDue_frame :
    s.queryDue.table = s.table ∧ s.queryDue.inbox = s.inbox ∧ s.queryDue.scanner = s.scanner ∧
      s.queryDue.lamps = s.lamps ∧ s.queryDue.planner = s.planner ∧ s.queryDue.run = s.run ∧
      s.queryDue.composer = s.composer ∧ s.queryDue.engine = s.engine ∧ s.queryDue.link = s.link ∧
      s.queryDue.faults = s.faults ∧ s.queryDue.inReset = s.inReset ∧ s.queryDue.pending = s.pending :=
  by unfold State.queryDue; (repeat' split) <;> simp

@[simp] theorem State.hearingLate_frame :
    s.hearingLate.table = s.table ∧ s.hearingLate.scanner = s.scanner ∧ s.hearingLate.lamps = s.lamps ∧
      s.hearingLate.planner = s.planner ∧ s.hearingLate.run = s.run ∧ s.hearingLate.composer = s.composer ∧
      s.hearingLate.engine = s.engine ∧ s.hearingLate.link = s.link ∧ s.hearingLate.inReset = s.inReset ∧
      s.hearingLate.out = s.out ∧ s.hearingLate.pending = s.pending :=
  by unfold State.hearingLate; dsimp only; (repeat' split) <;> simp

@[simp] theorem State.backlightDue_frame :
    s.backlightDue.table = s.table ∧ s.backlightDue.inbox = s.inbox ∧ s.backlightDue.scanner = s.scanner ∧
      s.backlightDue.lamps = s.lamps ∧ s.backlightDue.planner = s.planner ∧ s.backlightDue.run = s.run ∧
      s.backlightDue.port = s.port ∧ s.backlightDue.engine = s.engine ∧ s.backlightDue.link = s.link ∧
      s.backlightDue.faults = s.faults ∧ s.backlightDue.inReset = s.inReset ∧ s.backlightDue.out = s.out ∧
      s.backlightDue.pending = s.pending := by simp [State.backlightDue]

end Sys2Proof.Machine
end

