-- ==== Sys2Proof/Laws/Effects.lean ====
section
/-! SUPPORT. What the frame of a command, the status updates, the fault reports and the key maps do, each said once. -/

namespace Sys2Proof.Machine

/-! ## The frame of a command -/

theorem command_next (f : State → State) (s : State) (h : s.inReset = false) : command f s = .next (f s.begin).settle := by
  simp [command, always, h]

theorem command_held (f : State → State) (s : State) (h : s.inReset = true) :
    command f s = .next { s with out := noOutputs, link := { s.link with attn := false } } := by
  simp [command, always, h, State.begin, State.settle, State.attnLevel]

theorem checked_next (i : Instr) (f : State → State) (s : State) (hi : i.wellFormed = true) : checked i f s = command f s := by
  simp [checked, hi]

theorem checked_fault (i : Instr) (f : State → State) (s : State) (hi : i.wellFormed = false) :
    checked i f s = .fault .malformedCommand := by
  simp [checked, hi]

@[simp] theorem State.settle_attnLevel (s : State) : s.settle.attnLevel = s.attnLevel := rfl

@[simp] theorem State.begin_attentionCause (s : State) : s.begin.attentionCause = s.attentionCause := rfl

@[simp] theorem State.settle_attentionCause (s : State) : s.settle.attentionCause = s.attentionCause := rfl

theorem State.settle_attnFollows (s : State) : s.settle.attnFollows := rfl

/-! ## Status updates -/

/-- A status update leaves the table that its write gives. -/
theorem State.statusUpdate_table (r : Ref) (w : Table → Table) (s : State) :
    (s.statusUpdate r w).table = if (w s.table).get r = s.table.get r then s.table else w s.table := by
  unfold State.statusUpdate; dsimp only; split <;> simp [State.notifyLamps, State.recompose, *]

/-- The Run Controller's state after a change of it. -/
theorem State.setAcqState_table (v : AcqState) (s : State) :
    (s.setAcqState v).table = { s.table with acquire := { s.table.acquire with acqState := v } } := by
  obtain ⟨t, _⟩ := s
  obtain ⟨_, _, _, a, _⟩ := t
  simp only [State.setAcqState, State.statusUpdate_table, ite_eq_right_iff]
  intro h
  have h : enumValue AcqState.positions v = enumValue AcqState.positions a.acqState := by
    simpa [Table.get, acqStateRef, acquireKey, Field.cls, Acquire.get] using h
  have : v = a.acqState := by revert h; cases v <;> cases a.acqState <;> decide
  simp [this]

/-- trig_status after a change of it. -/
theorem State.setTrigStatus_table (v : TrigStatus) (s : State) :
    (s.setTrigStatus v).table = { s.table with acquire := { s.table.acquire with trigStatus := v } } := by
  obtain ⟨t, _⟩ := s
  obtain ⟨_, _, _, a, _⟩ := t
  simp only [State.setTrigStatus, State.statusUpdate_table, ite_eq_right_iff]
  intro h
  have h : enumValue TrigStatus.positions v = enumValue TrigStatus.positions a.trigStatus := by
    simpa [Table.get, trigStatusRef, acquireKey, Field.cls, Acquire.get] using h
  have : v = a.trigStatus := by revert h; cases v <;> cases a.trigStatus <;> decide
  simp [this]

/-- acq_count after a completed acquisition. -/
theorem State.countAcquisition_table (s : State) :
    s.countAcquisition.table = { s.table with acquire := { s.table.acquire with acqCount := s.table.acquire.acqCount + 1 } } := by
  obtain ⟨t, _⟩ := s
  obtain ⟨_, _, _, a, _⟩ := t
  simp only [State.countAcquisition, State.statusUpdate_table, ite_eq_right_iff]
  intro h
  have h : (a.acqCount + 1).toNat = a.acqCount.toNat := by
    have := h
    simp only [Table.get, acqCountRef, acquireKey, Field.cls, Acquire.get] at this
    simpa [-BitVec.toNat_add] using this
  rw [BitVec.eq_of_toNat_eq h]

/-- SYSTEM.store_present after a change of it. -/
theorem State.setStorePresent_table (v : Bool) (s : State) :
    (s.setStorePresent v).table = { s.table with system := { s.table.system with storePresent := v } } := by
  obtain ⟨t, _⟩ := s
  obtain ⟨_, _, _, _, _, _, _, y, _⟩ := t
  simp only [State.setStorePresent, State.statusUpdate_table, ite_eq_right_iff]
  intro h
  have : v = y.storePresent := by simpa [Table.get, storePresentRef, systemKey, Field.cls, SystemRec.get] using h
  simp [this]

/-- The Storage Engine's state after a change of it. -/
theorem State.setStoreState_table (v : StoreState) (s : State) :
    (s.setStoreState v).table = { s.table with system := { s.table.system with storeState := v } } := by
  obtain ⟨t, _⟩ := s
  obtain ⟨_, _, _, _, _, _, _, y, _⟩ := t
  simp only [State.setStoreState, State.statusUpdate_table, ite_eq_right_iff]
  intro h
  have h : enumValue StoreState.positions v = enumValue StoreState.positions y.storeState := by
    simpa [Table.get, storeStateRef, systemKey, Field.cls, SystemRec.get] using h
  have : v = y.storeState := by revert h; cases v <;> cases y.storeState <;> decide
  simp [this]

/-- The Capture Port's state after a change of it. -/
theorem State.setCaptureOnline_table (v : Bool) (s : State) :
    (s.setCaptureOnline v).table = { s.table with system := { s.table.system with captureOnline := v } } := by
  obtain ⟨t, _⟩ := s
  obtain ⟨_, _, _, _, _, _, _, y, _⟩ := t
  simp only [State.setCaptureOnline, State.statusUpdate_table, ite_eq_right_iff]
  intro h
  have : v = y.captureOnline := by simpa [Table.get, captureOnlineRef, systemKey, Field.cls, SystemRec.get] using h
  simp [this]

end Sys2Proof.Machine
end

