-- ==== Sys2Proof/Laws/Settings.lean ====
section
/-! SUPPORT. What each operation leaves of the table outside its STATUS fields: an application event leaves the table of its stages 4 to 7,
every other operation named here leaves it as it was. -/

namespace Sys2Proof.Machine

variable (s : State)

@[simp] theorem State.setAcqState_settings (v : AcqState) : (s.setAcqState v).table.settings = s.table.settings :=
  by rw [State.setAcqState_table]; rfl

@[simp] theorem State.setTrigStatus_settings (v : TrigStatus) : (s.setTrigStatus v).table.settings = s.table.settings :=
  by rw [State.setTrigStatus_table]; rfl

@[simp] theorem State.countAcquisition_settings : s.countAcquisition.table.settings = s.table.settings :=
  by rw [State.countAcquisition_table]; rfl

@[simp] theorem State.setStorePresent_settings (v : Bool) : (s.setStorePresent v).table.settings = s.table.settings :=
  by rw [State.setStorePresent_table]; rfl

@[simp] theorem State.setStoreState_settings (v : StoreState) : (s.setStoreState v).table.settings = s.table.settings :=
  by rw [State.setStoreState_table]; rfl

@[simp] theorem State.setCaptureOnline_settings (v : Bool) : (s.setCaptureOnline v).table.settings = s.table.settings :=
  by rw [State.setCaptureOnline_table]; rfl

@[simp] theorem State.arm_settings : s.arm.table.settings = s.table.settings := by unfold State.arm; (repeat' split) <;> simp

@[simp] theorem State.bankFreed_settings : s.bankFreed.table.settings = s.table.settings :=
  by unfold State.bankFreed; (repeat' split) <;> simp

@[simp] theorem State.handover_settings : s.handover.table.settings = s.table.settings :=
  by unfold State.handover; dsimp only; (repeat' split) <;> simp

@[simp] theorem State.restart_settings : s.restart.table.settings = s.table.settings :=
  by unfold State.restart; dsimp only; (repeat' split) <;> simp

@[simp] theorem State.failPort_settings (q : PortRequest) : (s.failPort q).table.settings = s.table.settings :=
  by simp [State.failPort]

@[simp] theorem State.takeHello_settings : s.takeHello.table.settings = s.table.settings :=
  by unfold State.takeHello; (repeat' split) <;> simp

@[simp] theorem State.takeAck_settings : s.takeAck.table.settings = s.table.settings :=
  by unfold State.takeAck; dsimp only; (repeat' split) <;> simp

@[simp] theorem State.takePrefilled_settings (x : Bank) : (s.takePrefilled x).table.settings = s.table.settings :=
  by unfold State.takePrefilled; dsimp only; (repeat' split) <;> simp

@[simp] theorem State.trigger_settings (x : Bank) (b : Bool) : (s.trigger x b).table.settings = s.table.settings :=
  by simp [State.trigger]

@[simp] theorem State.takeTriggered_settings (x : Bank) (b : Bool) : (s.takeTriggered x b).table.settings = s.table.settings :=
  by unfold State.takeTriggered; (repeat' split) <;> simp

@[simp] theorem State.takeComplete_settings (x : Bank) : (s.takeComplete x).table.settings = s.table.settings :=
  by unfold State.takeComplete; dsimp only; (repeat' split) <;> simp

@[simp] theorem State.takeBank_settings : s.takeBank.table.settings = s.table.settings :=
  by unfold State.takeBank; (repeat' split) <;> simp

@[simp] theorem State.endBank_settings : s.endBank.table.settings = s.table.settings :=
  by unfold State.endBank; (repeat' split) <;> simp

@[simp] theorem State.handOver_settings (m : TrigMode) (l : List Ref) : (s.handOver m l).table.settings = s.table.settings :=
  by unfold State.handOver; (repeat' split) <;> simp

@[simp] theorem State.notify_settings (m : TrigMode) (l : List Ref) (d : Draft) : (s.notify m l d).table.settings = s.table.settings :=
  by unfold State.notify; dsimp only; (repeat' split) <;> simp

@[simp] theorem State.frameStart_settings : s.frameStart.table.settings = s.table.settings :=
  by unfold State.frameStart; dsimp only; (repeat' split) <;> simp

@[simp] theorem State.frameStartIfDue_settings : s.frameStartIfDue.table.settings = s.table.settings :=
  by unfold State.frameStartIfDue; (repeat' split) <;> simp

@[simp] theorem State.frameEnd_settings : s.frameEnd.table.settings = s.table.settings :=
  by unfold State.frameEnd; dsimp only; (repeat' split) <;> simp

@[simp] theorem State.verticalBlank_settings : s.verticalBlank.table.settings = s.table.settings :=
  by unfold State.verticalBlank; (repeat' split) <;> simp

@[simp] theorem State.beginOp_settings (st : StoreState) (o : OpInHand) (p : Option Phase) : (s.beginOp st o p).table.settings = s.table.settings :=
  by simp [State.beginOp]

@[simp] theorem State.endOp_settings (o : OpInHand) (r : OpOutcome) : (s.endOp o r).table.settings = s.table.settings :=
  by simp [State.endOp]

@[simp] theorem State.failWrite_settings (o : OpInHand) (r : Reason) (e : SlotEntry) : (s.failWrite o r e).table.settings = s.table.settings :=
  by simp [State.failWrite]

@[simp] theorem State.failRead_settings (o : OpInHand) (r : Reason) (l : List Byte) : (s.failRead o r l).table.settings = s.table.settings :=
  by simp [State.failRead]

@[simp] theorem State.failTimeout_settings (o : OpInHand) : (s.failTimeout o).table.settings = s.table.settings :=
  by simp [State.failTimeout]

@[simp] theorem State.storeErased_settings (b : Byte) (l : List Byte) : (s.storeErased b l).table.settings = s.table.settings :=
  by unfold State.storeErased; (repeat' split) <;> simp

@[simp] theorem State.storeEraseTimeout_settings : s.storeEraseTimeout.table.settings = s.table.settings :=
  by unfold State.storeEraseTimeout; (repeat' split) <;> simp

@[simp] theorem State.pageProgrammed_settings (b : Byte) (l : List Byte) : (s.pageProgrammed b l).table.settings = s.table.settings :=
  by unfold State.pageProgrammed; (repeat' split) <;> simp

@[simp] theorem State.pageTimeout_settings : s.pageTimeout.table.settings = s.table.settings :=
  by unfold State.pageTimeout; (repeat' split) <;> simp

@[simp] theorem State.verifySector_settings (l : List Byte) : (s.verifySector l).table.settings = s.table.settings :=
  by unfold State.verifySector; (repeat' split) <;> simp

@[simp] theorem State.slotErased_settings (b : Byte) (l : List Byte) : (s.slotErased b l).table.settings = s.table.settings :=
  by unfold State.slotErased; (repeat' split) <;> simp

@[simp] theorem State.slotEraseTimeout_settings : s.slotEraseTimeout.table.settings = s.table.settings :=
  by unfold State.slotEraseTimeout; (repeat' split) <;> simp

@[simp] theorem State.beginStore_settings (n : Nat) (l : Option Text) (c : Categories) : (s.beginStore n l c).table.settings = s.table.settings :=
  by simp [State.beginStore]

@[simp] theorem State.detectTimeout_settings : s.detectTimeout.table.settings = s.table.settings :=
  by unfold State.detectTimeout; (repeat' split) <;> simp

@[simp] theorem State.startUpFails_settings (r : Reason) : (s.startUpFails r).table.settings = s.table.settings :=
  by simp [State.startUpFails]

@[simp] theorem State.detectFlash_settings (a b c : Byte) : (s.detectFlash a b c).table.settings = s.table.settings :=
  by unfold State.detectFlash; dsimp only; (repeat' split) <;> simp [State.readAllSlots_frame]

@[simp] theorem State.scanSlots_settings (l : List (List Byte)) : (s.scanSlots l).table.settings = s.table.settings :=
  by unfold State.scanSlots; dsimp only; (repeat' split) <;> simp

/-- An application event leaves the table of its stages 4 to 7, whatever status updates its notifications bring (R4). -/
theorem State.commit_settings (o : Owner) (d : Draft) :
    (s.commit o d).table.settings = (eventTable o d s.table).settings := by
  unfold State.commit eventTable; dsimp only; split <;> simp

/-- An event that alters no stamped field and creates and retires no record leaves the whole part as it was (R4). -/
theorem State.commit_of_nothing (o : Owner) (d : Draft) (h : alteredRefs s.table (d.planned s.table) = [])
    (hc : d.created = []) (hr : d.retired = []) : s.commit o d = s := by
  simp [State.commit, h, hc, hr]

end Sys2Proof.Machine
end

