-- ==== Sys2Proof/Laws/Buffers.lean ====
section
/-! SUPPORT. What each operation leaves of the Composer: its state, its snapshot, its two buffers and their roles, and the backlight. -/

namespace Sys2Proof.Machine

variable (s : State)

@[simp] theorem State.statusUpdate_composer (r : Ref) (w : Table → Table) :
    (s.statusUpdate r w).composer.state = s.composer.state ∧ (s.statusUpdate r w).composer.snapshot = s.composer.snapshot ∧
      (s.statusUpdate r w).composer.front1 = s.composer.front1 ∧ (s.statusUpdate r w).composer.buf0 = s.composer.buf0 ∧
      (s.statusUpdate r w).composer.buf1 = s.composer.buf1 ∧ (s.statusUpdate r w).composer.backlightOn = s.composer.backlightOn :=
  by unfold State.statusUpdate; dsimp only; split <;> simp [State.notifyLamps, State.recompose]

@[simp] theorem State.setAcqState_composer (v : AcqState) :
    (s.setAcqState v).composer.state = s.composer.state ∧ (s.setAcqState v).composer.snapshot = s.composer.snapshot ∧
      (s.setAcqState v).composer.front1 = s.composer.front1 ∧ (s.setAcqState v).composer.buf0 = s.composer.buf0 ∧
      (s.setAcqState v).composer.buf1 = s.composer.buf1 ∧ (s.setAcqState v).composer.backlightOn = s.composer.backlightOn :=
  by simp [State.setAcqState]

@[simp] theorem State.setTrigStatus_composer (v : TrigStatus) :
    (s.setTrigStatus v).composer.state = s.composer.state ∧ (s.setTrigStatus v).composer.snapshot = s.composer.snapshot ∧
      (s.setTrigStatus v).composer.front1 = s.composer.front1 ∧ (s.setTrigStatus v).composer.buf0 = s.composer.buf0 ∧
      (s.setTrigStatus v).composer.buf1 = s.composer.buf1 ∧ (s.setTrigStatus v).composer.backlightOn = s.composer.backlightOn :=
  by simp [State.setTrigStatus]

@[simp] theorem State.setStorePresent_composer (v : Bool) :
    (s.setStorePresent v).composer.state = s.composer.state ∧ (s.setStorePresent v).composer.snapshot = s.composer.snapshot ∧
      (s.setStorePresent v).composer.front1 = s.composer.front1 ∧ (s.setStorePresent v).composer.buf0 = s.composer.buf0 ∧
      (s.setStorePresent v).composer.buf1 = s.composer.buf1 ∧ (s.setStorePresent v).composer.backlightOn = s.composer.backlightOn :=
  by simp [State.setStorePresent]

@[simp] theorem State.setStoreState_composer (v : StoreState) :
    (s.setStoreState v).composer.state = s.composer.state ∧ (s.setStoreState v).composer.snapshot = s.composer.snapshot ∧
      (s.setStoreState v).composer.front1 = s.composer.front1 ∧ (s.setStoreState v).composer.buf0 = s.composer.buf0 ∧
      (s.setStoreState v).composer.buf1 = s.composer.buf1 ∧ (s.setStoreState v).composer.backlightOn = s.composer.backlightOn :=
  by simp [State.setStoreState]

@[simp] theorem State.setCaptureOnline_composer (v : Bool) :
    (s.setCaptureOnline v).composer.state = s.composer.state ∧ (s.setCaptureOnline v).composer.snapshot = s.composer.snapshot ∧
      (s.setCaptureOnline v).composer.front1 = s.composer.front1 ∧ (s.setCaptureOnline v).composer.buf0 = s.composer.buf0 ∧
      (s.setCaptureOnline v).composer.buf1 = s.composer.buf1 ∧ (s.setCaptureOnline v).composer.backlightOn = s.composer.backlightOn :=
  by simp [State.setCaptureOnline]

@[simp] theorem State.countAcquisition_composer  :
    s.countAcquisition.composer.state = s.composer.state ∧ s.countAcquisition.composer.snapshot = s.composer.snapshot ∧
      s.countAcquisition.composer.front1 = s.composer.front1 ∧ s.countAcquisition.composer.buf0 = s.composer.buf0 ∧
      s.countAcquisition.composer.buf1 = s.composer.buf1 ∧ s.countAcquisition.composer.backlightOn = s.composer.backlightOn :=
  by simp [State.countAcquisition]

@[simp] theorem State.arm_composer  :
    s.arm.composer.state = s.composer.state ∧ s.arm.composer.snapshot = s.composer.snapshot ∧
      s.arm.composer.front1 = s.composer.front1 ∧ s.arm.composer.buf0 = s.composer.buf0 ∧
      s.arm.composer.buf1 = s.composer.buf1 ∧ s.arm.composer.backlightOn = s.composer.backlightOn :=
  by unfold State.arm; (repeat' split) <;> simp

@[simp] theorem State.bankFreed_composer  :
    s.bankFreed.composer.state = s.composer.state ∧ s.bankFreed.composer.snapshot = s.composer.snapshot ∧
      s.bankFreed.composer.front1 = s.composer.front1 ∧ s.bankFreed.composer.buf0 = s.composer.buf0 ∧
      s.bankFreed.composer.buf1 = s.composer.buf1 ∧ s.bankFreed.composer.backlightOn = s.composer.backlightOn :=
  by unfold State.bankFreed; (repeat' split) <;> simp

@[simp] theorem State.handover_composer  :
    s.handover.composer.state = s.composer.state ∧ s.handover.composer.snapshot = s.composer.snapshot ∧
      s.handover.composer.front1 = s.composer.front1 ∧ s.handover.composer.buf0 = s.composer.buf0 ∧
      s.handover.composer.buf1 = s.composer.buf1 ∧ s.handover.composer.backlightOn = s.composer.backlightOn :=
  by unfold State.handover; dsimp only; (repeat' split) <;> simp

@[simp] theorem State.pump_composer  :
    s.pump.composer.state = s.composer.state ∧ s.pump.composer.snapshot = s.composer.snapshot ∧
      s.pump.composer.front1 = s.composer.front1 ∧ s.pump.composer.buf0 = s.composer.buf0 ∧
      s.pump.composer.buf1 = s.composer.buf1 ∧ s.pump.composer.backlightOn = s.composer.backlightOn :=
  by unfold State.pump; dsimp only; (repeat' split) <;> simp

@[simp] theorem State.offerReduce_composer (r : Reduce) :
    (s.offerReduce r).composer.state = s.composer.state ∧ (s.offerReduce r).composer.snapshot = s.composer.snapshot ∧
      (s.offerReduce r).composer.front1 = s.composer.front1 ∧ (s.offerReduce r).composer.buf0 = s.composer.buf0 ∧
      (s.offerReduce r).composer.buf1 = s.composer.buf1 ∧ (s.offerReduce r).composer.backlightOn = s.composer.backlightOn :=
  by unfold State.offerReduce; (repeat' split) <;> simp

@[simp] theorem State.failReduces_composer  :
    s.failReduces.composer.state = s.composer.state ∧ s.failReduces.composer.snapshot = s.composer.snapshot ∧
      s.failReduces.composer.front1 = s.composer.front1 ∧ s.failReduces.composer.buf0 = s.composer.buf0 ∧
      s.failReduces.composer.buf1 = s.composer.buf1 ∧ s.failReduces.composer.backlightOn = s.composer.backlightOn :=
  by unfold State.failReduces; dsimp only; split <;> simp

@[simp] theorem State.failPort_composer (q : PortRequest) :
    (s.failPort q).composer.state = s.composer.state ∧ (s.failPort q).composer.snapshot = s.composer.snapshot ∧
      (s.failPort q).composer.front1 = s.composer.front1 ∧ (s.failPort q).composer.buf0 = s.composer.buf0 ∧
      (s.failPort q).composer.buf1 = s.composer.buf1 ∧ (s.failPort q).composer.backlightOn = s.composer.backlightOn :=
  by simp [State.failPort]

@[simp] theorem State.restart_composer  :
    s.restart.composer.state = s.composer.state ∧ s.restart.composer.snapshot = s.composer.snapshot ∧
      s.restart.composer.front1 = s.composer.front1 ∧ s.restart.composer.buf0 = s.composer.buf0 ∧
      s.restart.composer.buf1 = s.composer.buf1 ∧ s.restart.composer.backlightOn = s.composer.backlightOn :=
  by unfold State.restart; dsimp only; split <;> simp

@[simp] theorem State.takeHello_composer  :
    s.takeHello.composer.state = s.composer.state ∧ s.takeHello.composer.snapshot = s.composer.snapshot ∧
      s.takeHello.composer.front1 = s.composer.front1 ∧ s.takeHello.composer.buf0 = s.composer.buf0 ∧
      s.takeHello.composer.buf1 = s.composer.buf1 ∧ s.takeHello.composer.backlightOn = s.composer.backlightOn :=
  by unfold State.takeHello; (repeat' split) <;> simp

@[simp] theorem State.takeAck_composer  :
    s.takeAck.composer.state = s.composer.state ∧ s.takeAck.composer.snapshot = s.composer.snapshot ∧
      s.takeAck.composer.front1 = s.composer.front1 ∧ s.takeAck.composer.buf0 = s.composer.buf0 ∧
      s.takeAck.composer.buf1 = s.composer.buf1 ∧ s.takeAck.composer.backlightOn = s.composer.backlightOn :=
  by unfold State.takeAck; dsimp only; (repeat' split) <;> simp

@[simp] theorem State.takePrefilled_composer (x : Bank) :
    (s.takePrefilled x).composer.state = s.composer.state ∧ (s.takePrefilled x).composer.snapshot = s.composer.snapshot ∧
      (s.takePrefilled x).composer.front1 = s.composer.front1 ∧ (s.takePrefilled x).composer.buf0 = s.composer.buf0 ∧
      (s.takePrefilled x).composer.buf1 = s.composer.buf1 ∧ (s.takePrefilled x).composer.backlightOn = s.composer.backlightOn :=
  by unfold State.takePrefilled; dsimp only; (repeat' split) <;> simp

@[simp] theorem State.trigger_composer (x : Bank) (b : Bool) :
    (s.trigger x b).composer.state = s.composer.state ∧ (s.trigger x b).composer.snapshot = s.composer.snapshot ∧
      (s.trigger x b).composer.front1 = s.composer.front1 ∧ (s.trigger x b).composer.buf0 = s.composer.buf0 ∧
      (s.trigger x b).composer.buf1 = s.composer.buf1 ∧ (s.trigger x b).composer.backlightOn = s.composer.backlightOn :=
  by simp [State.trigger]

@[simp] theorem State.takeTriggered_composer (x : Bank) (b : Bool) :
    (s.takeTriggered x b).composer.state = s.composer.state ∧ (s.takeTriggered x b).composer.snapshot = s.composer.snapshot ∧
      (s.takeTriggered x b).composer.front1 = s.composer.front1 ∧ (s.takeTriggered x b).composer.buf0 = s.composer.buf0 ∧
      (s.takeTriggered x b).composer.buf1 = s.composer.buf1 ∧ (s.takeTriggered x b).composer.backlightOn = s.composer.backlightOn :=
  by unfold State.takeTriggered; (repeat' split) <;> simp

@[simp] theorem State.takeComplete_composer (x : Bank) :
    (s.takeComplete x).composer.state = s.composer.state ∧ (s.takeComplete x).composer.snapshot = s.composer.snapshot ∧
      (s.takeComplete x).composer.front1 = s.composer.front1 ∧ (s.takeComplete x).composer.buf0 = s.composer.buf0 ∧
      (s.takeComplete x).composer.buf1 = s.composer.buf1 ∧ (s.takeComplete x).composer.backlightOn = s.composer.backlightOn :=
  by unfold State.takeComplete; dsimp only; (repeat' split) <;> simp

@[simp] theorem State.expireAutoTimer_composer  :
    s.expireAutoTimer.composer.state = s.composer.state ∧ s.expireAutoTimer.composer.snapshot = s.composer.snapshot ∧
      s.expireAutoTimer.composer.front1 = s.composer.front1 ∧ s.expireAutoTimer.composer.buf0 = s.composer.buf0 ∧
      s.expireAutoTimer.composer.buf1 = s.composer.buf1 ∧ s.expireAutoTimer.composer.backlightOn = s.composer.backlightOn :=
  by unfold State.expireAutoTimer; (repeat' split) <;> simp

@[simp] theorem State.takeBank_composer  :
    s.takeBank.composer.state = s.composer.state ∧ s.takeBank.composer.snapshot = s.composer.snapshot ∧
      s.takeBank.composer.front1 = s.composer.front1 ∧ s.takeBank.composer.buf0 = s.composer.buf0 ∧
      s.takeBank.composer.buf1 = s.composer.buf1 ∧ s.takeBank.composer.backlightOn = s.composer.backlightOn :=
  by unfold State.takeBank; (repeat' split) <;> simp

@[simp] theorem State.endBank_composer  :
    s.endBank.composer.state = s.composer.state ∧ s.endBank.composer.snapshot = s.composer.snapshot ∧
      s.endBank.composer.front1 = s.composer.front1 ∧ s.endBank.composer.buf0 = s.composer.buf0 ∧
      s.endBank.composer.buf1 = s.composer.buf1 ∧ s.endBank.composer.backlightOn = s.composer.backlightOn :=
  by unfold State.endBank; (repeat' split) <;> simp

@[simp] theorem State.handOver_composer (m : TrigMode) (l : List Ref) :
    (s.handOver m l).composer.state = s.composer.state ∧ (s.handOver m l).composer.snapshot = s.composer.snapshot ∧
      (s.handOver m l).composer.front1 = s.composer.front1 ∧ (s.handOver m l).composer.buf0 = s.composer.buf0 ∧
      (s.handOver m l).composer.buf1 = s.composer.buf1 ∧ (s.handOver m l).composer.backlightOn = s.composer.backlightOn :=
  by unfold State.handOver; (repeat' split) <;> simp

@[simp] theorem State.notify_composer (m : TrigMode) (l : List Ref) (d : Draft) :
    (s.notify m l d).composer.state = s.composer.state ∧ (s.notify m l d).composer.snapshot = s.composer.snapshot ∧
      (s.notify m l d).composer.front1 = s.composer.front1 ∧ (s.notify m l d).composer.buf0 = s.composer.buf0 ∧
      (s.notify m l d).composer.buf1 = s.composer.buf1 ∧ (s.notify m l d).composer.backlightOn = s.composer.backlightOn :=
  by unfold State.notify; dsimp only; split <;> simp

@[simp] theorem State.commit_composer (o : Owner) (d : Draft) :
    (s.commit o d).composer.state = s.composer.state ∧ (s.commit o d).composer.snapshot = s.composer.snapshot ∧
      (s.commit o d).composer.front1 = s.composer.front1 ∧ (s.commit o d).composer.buf0 = s.composer.buf0 ∧
      (s.commit o d).composer.buf1 = s.composer.buf1 ∧ (s.commit o d).composer.backlightOn = s.composer.backlightOn :=
  by unfold State.commit; dsimp only; split <;> simp

@[simp] theorem State.advanceTrace_composer  :
    s.advanceTrace.composer.state = s.composer.state ∧ s.advanceTrace.composer.snapshot = s.composer.snapshot ∧
      s.advanceTrace.composer.front1 = s.composer.front1 ∧ s.advanceTrace.composer.buf0 = s.composer.buf0 ∧
      s.advanceTrace.composer.buf1 = s.composer.buf1 ∧ s.advanceTrace.composer.backlightOn = s.composer.backlightOn :=
  by unfold State.advanceTrace; dsimp only; (repeat' split) <;> simp

@[simp] theorem State.beginOp_composer (st : StoreState) (o : OpInHand) (p : Option Phase) :
    (s.beginOp st o p).composer.state = s.composer.state ∧ (s.beginOp st o p).composer.snapshot = s.composer.snapshot ∧
      (s.beginOp st o p).composer.front1 = s.composer.front1 ∧ (s.beginOp st o p).composer.buf0 = s.composer.buf0 ∧
      (s.beginOp st o p).composer.buf1 = s.composer.buf1 ∧ (s.beginOp st o p).composer.backlightOn = s.composer.backlightOn :=
  by simp [State.beginOp]

@[simp] theorem State.endOp_composer (o : OpInHand) (r : OpOutcome) :
    (s.endOp o r).composer.state = s.composer.state ∧ (s.endOp o r).composer.snapshot = s.composer.snapshot ∧
      (s.endOp o r).composer.front1 = s.composer.front1 ∧ (s.endOp o r).composer.buf0 = s.composer.buf0 ∧
      (s.endOp o r).composer.buf1 = s.composer.buf1 ∧ (s.endOp o r).composer.backlightOn = s.composer.backlightOn :=
  by simp [State.endOp]

@[simp] theorem State.failWrite_composer (o : OpInHand) (r : Reason) (e : SlotEntry) :
    (s.failWrite o r e).composer.state = s.composer.state ∧ (s.failWrite o r e).composer.snapshot = s.composer.snapshot ∧
      (s.failWrite o r e).composer.front1 = s.composer.front1 ∧ (s.failWrite o r e).composer.buf0 = s.composer.buf0 ∧
      (s.failWrite o r e).composer.buf1 = s.composer.buf1 ∧ (s.failWrite o r e).composer.backlightOn = s.composer.backlightOn :=
  by simp [State.failWrite]

@[simp] theorem State.failRead_composer (o : OpInHand) (r : Reason) (l : List Byte) :
    (s.failRead o r l).composer.state = s.composer.state ∧ (s.failRead o r l).composer.snapshot = s.composer.snapshot ∧
      (s.failRead o r l).composer.front1 = s.composer.front1 ∧ (s.failRead o r l).composer.buf0 = s.composer.buf0 ∧
      (s.failRead o r l).composer.buf1 = s.composer.buf1 ∧ (s.failRead o r l).composer.backlightOn = s.composer.backlightOn :=
  by simp [State.failRead]

@[simp] theorem State.failTimeout_composer (o : OpInHand) :
    (s.failTimeout o).composer.state = s.composer.state ∧ (s.failTimeout o).composer.snapshot = s.composer.snapshot ∧
      (s.failTimeout o).composer.front1 = s.composer.front1 ∧ (s.failTimeout o).composer.buf0 = s.composer.buf0 ∧
      (s.failTimeout o).composer.buf1 = s.composer.buf1 ∧ (s.failTimeout o).composer.backlightOn = s.composer.backlightOn :=
  by simp [State.failTimeout]

@[simp] theorem State.storeErased_composer (b : Byte) (l : List Byte) :
    (s.storeErased b l).composer.state = s.composer.state ∧ (s.storeErased b l).composer.snapshot = s.composer.snapshot ∧
      (s.storeErased b l).composer.front1 = s.composer.front1 ∧ (s.storeErased b l).composer.buf0 = s.composer.buf0 ∧
      (s.storeErased b l).composer.buf1 = s.composer.buf1 ∧ (s.storeErased b l).composer.backlightOn = s.composer.backlightOn :=
  by unfold State.storeErased; (repeat' split) <;> simp

@[simp] theorem State.storeEraseTimeout_composer  :
    s.storeEraseTimeout.composer.state = s.composer.state ∧ s.storeEraseTimeout.composer.snapshot = s.composer.snapshot ∧
      s.storeEraseTimeout.composer.front1 = s.composer.front1 ∧ s.storeEraseTimeout.composer.buf0 = s.composer.buf0 ∧
      s.storeEraseTimeout.composer.buf1 = s.composer.buf1 ∧ s.storeEraseTimeout.composer.backlightOn = s.composer.backlightOn :=
  by unfold State.storeEraseTimeout; (repeat' split) <;> simp

@[simp] theorem State.pageProgrammed_composer (b : Byte) (l : List Byte) :
    (s.pageProgrammed b l).composer.state = s.composer.state ∧ (s.pageProgrammed b l).composer.snapshot = s.composer.snapshot ∧
      (s.pageProgrammed b l).composer.front1 = s.composer.front1 ∧ (s.pageProgrammed b l).composer.buf0 = s.composer.buf0 ∧
      (s.pageProgrammed b l).composer.buf1 = s.composer.buf1 ∧ (s.pageProgrammed b l).composer.backlightOn = s.composer.backlightOn :=
  by unfold State.pageProgrammed; (repeat' split) <;> simp

@[simp] theorem State.pageTimeout_composer  :
    s.pageTimeout.composer.state = s.composer.state ∧ s.pageTimeout.composer.snapshot = s.composer.snapshot ∧
      s.pageTimeout.composer.front1 = s.composer.front1 ∧ s.pageTimeout.composer.buf0 = s.composer.buf0 ∧
      s.pageTimeout.composer.buf1 = s.composer.buf1 ∧ s.pageTimeout.composer.backlightOn = s.composer.backlightOn :=
  by unfold State.pageTimeout; (repeat' split) <;> simp

@[simp] theorem State.verifySector_composer (l : List Byte) :
    (s.verifySector l).composer.state = s.composer.state ∧ (s.verifySector l).composer.snapshot = s.composer.snapshot ∧
      (s.verifySector l).composer.front1 = s.composer.front1 ∧ (s.verifySector l).composer.buf0 = s.composer.buf0 ∧
      (s.verifySector l).composer.buf1 = s.composer.buf1 ∧ (s.verifySector l).composer.backlightOn = s.composer.backlightOn :=
  by unfold State.verifySector; (repeat' split) <;> simp

@[simp] theorem State.slotErased_composer (b : Byte) (l : List Byte) :
    (s.slotErased b l).composer.state = s.composer.state ∧ (s.slotErased b l).composer.snapshot = s.composer.snapshot ∧
      (s.slotErased b l).composer.front1 = s.composer.front1 ∧ (s.slotErased b l).composer.buf0 = s.composer.buf0 ∧
      (s.slotErased b l).composer.buf1 = s.composer.buf1 ∧ (s.slotErased b l).composer.backlightOn = s.composer.backlightOn :=
  by unfold State.slotErased; (repeat' split) <;> simp

@[simp] theorem State.slotEraseTimeout_composer  :
    s.slotEraseTimeout.composer.state = s.composer.state ∧ s.slotEraseTimeout.composer.snapshot = s.composer.snapshot ∧
      s.slotEraseTimeout.composer.front1 = s.composer.front1 ∧ s.slotEraseTimeout.composer.buf0 = s.composer.buf0 ∧
      s.slotEraseTimeout.composer.buf1 = s.composer.buf1 ∧ s.slotEraseTimeout.composer.backlightOn = s.composer.backlightOn :=
  by unfold State.slotEraseTimeout; (repeat' split) <;> simp

@[simp] theorem State.factoryDefaults_composer  :
    s.factoryDefaults.composer.state = s.composer.state ∧ s.factoryDefaults.composer.snapshot = s.composer.snapshot ∧
      s.factoryDefaults.composer.front1 = s.composer.front1 ∧ s.factoryDefaults.composer.buf0 = s.composer.buf0 ∧
      s.factoryDefaults.composer.buf1 = s.composer.buf1 ∧ s.factoryDefaults.composer.backlightOn = s.composer.backlightOn :=
  by simp [State.factoryDefaults]

@[simp] theorem State.defaultsInstead_composer (o : OpInHand) :
    (s.defaultsInstead o).composer.state = s.composer.state ∧ (s.defaultsInstead o).composer.snapshot = s.composer.snapshot ∧
      (s.defaultsInstead o).composer.front1 = s.composer.front1 ∧ (s.defaultsInstead o).composer.buf0 = s.composer.buf0 ∧
      (s.defaultsInstead o).composer.buf1 = s.composer.buf1 ∧ (s.defaultsInstead o).composer.backlightOn = s.composer.backlightOn :=
  by unfold State.defaultsInstead; (repeat' split) <;> simp

@[simp] theorem State.recallSector_composer (l : List Byte) :
    (s.recallSector l).composer.state = s.composer.state ∧ (s.recallSector l).composer.snapshot = s.composer.snapshot ∧
      (s.recallSector l).composer.front1 = s.composer.front1 ∧ (s.recallSector l).composer.buf0 = s.composer.buf0 ∧
      (s.recallSector l).composer.buf1 = s.composer.buf1 ∧ (s.recallSector l).composer.backlightOn = s.composer.backlightOn :=
  by unfold State.recallSector; dsimp only; (repeat' split) <;> simp

@[simp] theorem State.recallTimeout_composer  :
    s.recallTimeout.composer.state = s.composer.state ∧ s.recallTimeout.composer.snapshot = s.composer.snapshot ∧
      s.recallTimeout.composer.front1 = s.composer.front1 ∧ s.recallTimeout.composer.buf0 = s.composer.buf0 ∧
      s.recallTimeout.composer.buf1 = s.composer.buf1 ∧ s.recallTimeout.composer.backlightOn = s.composer.backlightOn :=
  by unfold State.recallTimeout; (repeat' split) <;> simp

@[simp] theorem State.applyImage_composer  :
    s.applyImage.composer.state = s.composer.state ∧ s.applyImage.composer.snapshot = s.composer.snapshot ∧
      s.applyImage.composer.front1 = s.composer.front1 ∧ s.applyImage.composer.buf0 = s.composer.buf0 ∧
      s.applyImage.composer.buf1 = s.composer.buf1 ∧ s.applyImage.composer.backlightOn = s.composer.backlightOn :=
  by unfold State.applyImage; (repeat' split) <;> simp

@[simp] theorem State.defaultsNow_composer  :
    s.defaultsNow.1.composer.state = s.composer.state ∧ s.defaultsNow.1.composer.snapshot = s.composer.snapshot ∧
      s.defaultsNow.1.composer.front1 = s.composer.front1 ∧ s.defaultsNow.1.composer.buf0 = s.composer.buf0 ∧
      s.defaultsNow.1.composer.buf1 = s.composer.buf1 ∧ s.defaultsNow.1.composer.backlightOn = s.composer.backlightOn :=
  by simp [State.defaultsNow]

@[simp] theorem State.takeDefaults_composer  :
    s.takeDefaults.1.composer.state = s.composer.state ∧ s.takeDefaults.1.composer.snapshot = s.composer.snapshot ∧
      s.takeDefaults.1.composer.front1 = s.composer.front1 ∧ s.takeDefaults.1.composer.buf0 = s.composer.buf0 ∧
      s.takeDefaults.1.composer.buf1 = s.composer.buf1 ∧ s.takeDefaults.1.composer.backlightOn = s.composer.backlightOn :=
  by unfold State.takeDefaults; (repeat' split) <;> simp

@[simp] theorem State.beginStore_composer (n : Nat) (l : Option Text) (c : Categories) :
    (s.beginStore n l c).composer.state = s.composer.state ∧ (s.beginStore n l c).composer.snapshot = s.composer.snapshot ∧
      (s.beginStore n l c).composer.front1 = s.composer.front1 ∧ (s.beginStore n l c).composer.buf0 = s.composer.buf0 ∧
      (s.beginStore n l c).composer.buf1 = s.composer.buf1 ∧ (s.beginStore n l c).composer.backlightOn = s.composer.backlightOn :=
  by simp [State.beginStore]

@[simp] theorem State.detectFlash_composer (a b c : Byte) :
    (s.detectFlash a b c).composer.state = s.composer.state ∧ (s.detectFlash a b c).composer.snapshot = s.composer.snapshot ∧
      (s.detectFlash a b c).composer.front1 = s.composer.front1 ∧ (s.detectFlash a b c).composer.buf0 = s.composer.buf0 ∧
      (s.detectFlash a b c).composer.buf1 = s.composer.buf1 ∧ (s.detectFlash a b c).composer.backlightOn = s.composer.backlightOn :=
  by unfold State.detectFlash; dsimp only; (repeat' split) <;> simp [State.readAllSlots_frame]

@[simp] theorem State.detectTimeout_composer  :
    s.detectTimeout.composer.state = s.composer.state ∧ s.detectTimeout.composer.snapshot = s.composer.snapshot ∧
      s.detectTimeout.composer.front1 = s.composer.front1 ∧ s.detectTimeout.composer.buf0 = s.composer.buf0 ∧
      s.detectTimeout.composer.buf1 = s.composer.buf1 ∧ s.detectTimeout.composer.backlightOn = s.composer.backlightOn :=
  by unfold State.detectTimeout; (repeat' split) <;> simp

@[simp] theorem State.startUpFails_composer (r : Reason) :
    (s.startUpFails r).composer.state = s.composer.state ∧ (s.startUpFails r).composer.snapshot = s.composer.snapshot ∧
      (s.startUpFails r).composer.front1 = s.composer.front1 ∧ (s.startUpFails r).composer.buf0 = s.composer.buf0 ∧
      (s.startUpFails r).composer.buf1 = s.composer.buf1 ∧ (s.startUpFails r).composer.backlightOn = s.composer.backlightOn :=
  by simp [State.startUpFails]

@[simp] theorem State.scanSlots_composer (l : List (List Byte)) :
    (s.scanSlots l).composer.state = s.composer.state ∧ (s.scanSlots l).composer.snapshot = s.composer.snapshot ∧
      (s.scanSlots l).composer.front1 = s.composer.front1 ∧ (s.scanSlots l).composer.buf0 = s.composer.buf0 ∧
      (s.scanSlots l).composer.buf1 = s.composer.buf1 ∧ (s.scanSlots l).composer.backlightOn = s.composer.backlightOn :=
  by unfold State.scanSlots; dsimp only; (repeat' split) <;> simp

@[simp] theorem State.flashReady_composer  :
    s.flashReady.composer.state = s.composer.state ∧ s.flashReady.composer.snapshot = s.composer.snapshot ∧
      s.flashReady.composer.front1 = s.composer.front1 ∧ s.flashReady.composer.buf0 = s.composer.buf0 ∧
      s.flashReady.composer.buf1 = s.composer.buf1 ∧ s.flashReady.composer.backlightOn = s.composer.backlightOn :=
  by unfold State.flashReady; (repeat' split) <;> simp

@[simp] theorem amendRecord_composer (k : RecKey) (i : Items) :
    (amendRecord k i s).1.composer.state = s.composer.state ∧ (amendRecord k i s).1.composer.snapshot = s.composer.snapshot ∧
      (amendRecord k i s).1.composer.front1 = s.composer.front1 ∧ (amendRecord k i s).1.composer.buf0 = s.composer.buf0 ∧
      (amendRecord k i s).1.composer.buf1 = s.composer.buf1 ∧ (amendRecord k i s).1.composer.backlightOn = s.composer.backlightOn :=
  by simp [amendRecord]

@[simp] theorem amendRequest_composer (b : List Byte) :
    (amendRequest b s).1.composer.state = s.composer.state ∧ (amendRequest b s).1.composer.snapshot = s.composer.snapshot ∧
      (amendRequest b s).1.composer.front1 = s.composer.front1 ∧ (amendRequest b s).1.composer.buf0 = s.composer.buf0 ∧
      (amendRequest b s).1.composer.buf1 = s.composer.buf1 ∧ (amendRequest b s).1.composer.backlightOn = s.composer.backlightOn :=
  by unfold amendRequest; dsimp only; (repeat' split) <;> simp

@[simp] theorem createRecord_composer (k : RecKey) (i : Items) :
    (createRecord k i s).1.composer.state = s.composer.state ∧ (createRecord k i s).1.composer.snapshot = s.composer.snapshot ∧
      (createRecord k i s).1.composer.front1 = s.composer.front1 ∧ (createRecord k i s).1.composer.buf0 = s.composer.buf0 ∧
      (createRecord k i s).1.composer.buf1 = s.composer.buf1 ∧ (createRecord k i s).1.composer.backlightOn = s.composer.backlightOn :=
  by simp [createRecord]

@[simp] theorem createRequest_composer (b : List Byte) :
    (createRequest b s).1.composer.state = s.composer.state ∧ (createRequest b s).1.composer.snapshot = s.composer.snapshot ∧
      (createRequest b s).1.composer.front1 = s.composer.front1 ∧ (createRequest b s).1.composer.buf0 = s.composer.buf0 ∧
      (createRequest b s).1.composer.buf1 = s.composer.buf1 ∧ (createRequest b s).1.composer.backlightOn = s.composer.backlightOn :=
  by unfold createRequest; dsimp only; (repeat' split) <;> simp

@[simp] theorem retireRequest_composer (b : List Byte) :
    (retireRequest b s).1.composer.state = s.composer.state ∧ (retireRequest b s).1.composer.snapshot = s.composer.snapshot ∧
      (retireRequest b s).1.composer.front1 = s.composer.front1 ∧ (retireRequest b s).1.composer.buf0 = s.composer.buf0 ∧
      (retireRequest b s).1.composer.buf1 = s.composer.buf1 ∧ (retireRequest b s).1.composer.backlightOn = s.composer.backlightOn :=
  by unfold retireRequest; (repeat' split) <;> simp

@[simp] theorem acceptIntent_composer (k : RecKey) (i : Intent) :
    (acceptIntent k i s).1.composer.state = s.composer.state ∧ (acceptIntent k i s).1.composer.snapshot = s.composer.snapshot ∧
      (acceptIntent k i s).1.composer.front1 = s.composer.front1 ∧ (acceptIntent k i s).1.composer.buf0 = s.composer.buf0 ∧
      (acceptIntent k i s).1.composer.buf1 = s.composer.buf1 ∧ (acceptIntent k i s).1.composer.backlightOn = s.composer.backlightOn :=
  by unfold acceptIntent; dsimp only; (repeat' split) <;> simp

@[simp] theorem intentAcceptRequest_composer (b : List Byte) :
    (intentAcceptRequest b s).1.composer.state = s.composer.state ∧ (intentAcceptRequest b s).1.composer.snapshot = s.composer.snapshot ∧
      (intentAcceptRequest b s).1.composer.front1 = s.composer.front1 ∧ (intentAcceptRequest b s).1.composer.buf0 = s.composer.buf0 ∧
      (intentAcceptRequest b s).1.composer.buf1 = s.composer.buf1 ∧ (intentAcceptRequest b s).1.composer.backlightOn = s.composer.backlightOn :=
  by unfold intentAcceptRequest; (repeat' split) <;> simp

@[simp] theorem defaultsRequest_composer (b : List Byte) :
    (defaultsRequest b s).1.composer.state = s.composer.state ∧ (defaultsRequest b s).1.composer.snapshot = s.composer.snapshot ∧
      (defaultsRequest b s).1.composer.front1 = s.composer.front1 ∧ (defaultsRequest b s).1.composer.buf0 = s.composer.buf0 ∧
      (defaultsRequest b s).1.composer.buf1 = s.composer.buf1 ∧ (defaultsRequest b s).1.composer.backlightOn = s.composer.backlightOn :=
  by unfold defaultsRequest; dsimp only; (repeat' split) <;> simp

@[simp] theorem forceRequest_composer (b : List Byte) :
    (forceRequest b s).1.composer.state = s.composer.state ∧ (forceRequest b s).1.composer.snapshot = s.composer.snapshot ∧
      (forceRequest b s).1.composer.front1 = s.composer.front1 ∧ (forceRequest b s).1.composer.buf0 = s.composer.buf0 ∧
      (forceRequest b s).1.composer.buf1 = s.composer.buf1 ∧ (forceRequest b s).1.composer.backlightOn = s.composer.backlightOn :=
  by unfold forceRequest; dsimp only; (repeat' split) <;> simp

@[simp] theorem storeRequest_composer (b : List Byte) :
    (storeRequest b s).1.composer.state = s.composer.state ∧ (storeRequest b s).1.composer.snapshot = s.composer.snapshot ∧
      (storeRequest b s).1.composer.front1 = s.composer.front1 ∧ (storeRequest b s).1.composer.buf0 = s.composer.buf0 ∧
      (storeRequest b s).1.composer.buf1 = s.composer.buf1 ∧ (storeRequest b s).1.composer.backlightOn = s.composer.backlightOn :=
  by unfold storeRequest; dsimp only; (repeat' split) <;> simp

@[simp] theorem recallRequest_composer (b : List Byte) :
    (recallRequest b s).1.composer.state = s.composer.state ∧ (recallRequest b s).1.composer.snapshot = s.composer.snapshot ∧
      (recallRequest b s).1.composer.front1 = s.composer.front1 ∧ (recallRequest b s).1.composer.buf0 = s.composer.buf0 ∧
      (recallRequest b s).1.composer.buf1 = s.composer.buf1 ∧ (recallRequest b s).1.composer.backlightOn = s.composer.backlightOn :=
  by unfold recallRequest; (repeat' split) <;> simp

@[simp] theorem eraseRequest_composer (b : List Byte) :
    (eraseRequest b s).1.composer.state = s.composer.state ∧ (eraseRequest b s).1.composer.snapshot = s.composer.snapshot ∧
      (eraseRequest b s).1.composer.front1 = s.composer.front1 ∧ (eraseRequest b s).1.composer.buf0 = s.composer.buf0 ∧
      (eraseRequest b s).1.composer.buf1 = s.composer.buf1 ∧ (eraseRequest b s).1.composer.backlightOn = s.composer.backlightOn :=
  by unfold eraseRequest; (repeat' split) <;> simp

@[simp] theorem State.takeOwnerRun_composer  :
    s.takeOwnerRun.composer.state = s.composer.state ∧ s.takeOwnerRun.composer.snapshot = s.composer.snapshot ∧
      s.takeOwnerRun.composer.front1 = s.composer.front1 ∧ s.takeOwnerRun.composer.buf0 = s.composer.buf0 ∧
      s.takeOwnerRun.composer.buf1 = s.composer.buf1 ∧ s.takeOwnerRun.composer.backlightOn = s.composer.backlightOn :=
  by unfold State.takeOwnerRun; dsimp only; (repeat' split) <;> simp

@[simp] theorem State.takeOwnerFault_composer  :
    s.takeOwnerFault.composer.state = s.composer.state ∧ s.takeOwnerFault.composer.snapshot = s.composer.snapshot ∧
      s.takeOwnerFault.composer.front1 = s.composer.front1 ∧ s.takeOwnerFault.composer.buf0 = s.composer.buf0 ∧
      s.takeOwnerFault.composer.buf1 = s.composer.buf1 ∧ s.takeOwnerFault.composer.backlightOn = s.composer.backlightOn :=
  by unfold State.takeOwnerFault; dsimp only; (repeat' split) <;> simp

@[simp] theorem State.panelEvent_composer (w : Table × List (Field × FieldOutcome)) :
    (s.panelEvent w).composer.state = s.composer.state ∧ (s.panelEvent w).composer.snapshot = s.composer.snapshot ∧
      (s.panelEvent w).composer.front1 = s.composer.front1 ∧ (s.panelEvent w).composer.buf0 = s.composer.buf0 ∧
      (s.panelEvent w).composer.buf1 = s.composer.buf1 ∧ (s.panelEvent w).composer.backlightOn = s.composer.backlightOn :=
  by simp [State.panelEvent]

@[simp] theorem State.doPress_composer (k : Fin 40) (a : KeyAction) (r : Ref) (v : Option Value) :
    (s.doPress k a r v).composer.state = s.composer.state ∧ (s.doPress k a r v).composer.snapshot = s.composer.snapshot ∧
      (s.doPress k a r v).composer.front1 = s.composer.front1 ∧ (s.doPress k a r v).composer.buf0 = s.composer.buf0 ∧
      (s.doPress k a r v).composer.buf1 = s.composer.buf1 ∧ (s.doPress k a r v).composer.backlightOn = s.composer.backlightOn :=
  by unfold State.doPress; dsimp only; (repeat' split) <;> simp

@[simp] theorem State.takeAction_composer (p : PanelAction) :
    (s.takeAction p).composer.state = s.composer.state ∧ (s.takeAction p).composer.snapshot = s.composer.snapshot ∧
      (s.takeAction p).composer.front1 = s.composer.front1 ∧ (s.takeAction p).composer.buf0 = s.composer.buf0 ∧
      (s.takeAction p).composer.buf1 = s.composer.buf1 ∧ (s.takeAction p).composer.backlightOn = s.composer.backlightOn :=
  by unfold State.takeAction; (repeat' split) <;> simp

@[simp] theorem State.takeWaiting_composer (p : PanelAction → Bool) :
    (s.takeWaiting p).composer.state = s.composer.state ∧ (s.takeWaiting p).composer.snapshot = s.composer.snapshot ∧
      (s.takeWaiting p).composer.front1 = s.composer.front1 ∧ (s.takeWaiting p).composer.buf0 = s.composer.buf0 ∧
      (s.takeWaiting p).composer.buf1 = s.composer.buf1 ∧ (s.takeWaiting p).composer.backlightOn = s.composer.backlightOn :=
  by unfold State.takeWaiting; dsimp only; (repeat' split) <;> simp

@[simp] theorem State.repeatPress_composer (k : Fin 40) (b : Keybind) :
    (s.repeatPress k b).composer.state = s.composer.state ∧ (s.repeatPress k b).composer.snapshot = s.composer.snapshot ∧
      (s.repeatPress k b).composer.front1 = s.composer.front1 ∧ (s.repeatPress k b).composer.buf0 = s.composer.buf0 ∧
      (s.repeatPress k b).composer.buf1 = s.composer.buf1 ∧ (s.repeatPress k b).composer.backlightOn = s.composer.backlightOn :=
  by unfold State.repeatPress; dsimp only; (repeat' split) <;> simp

@[simp] theorem State.repeatExpiry_composer (k : Fin 40) :
    (s.repeatExpiry k).composer.state = s.composer.state ∧ (s.repeatExpiry k).composer.snapshot = s.composer.snapshot ∧
      (s.repeatExpiry k).composer.front1 = s.composer.front1 ∧ (s.repeatExpiry k).composer.buf0 = s.composer.buf0 ∧
      (s.repeatExpiry k).composer.buf1 = s.composer.buf1 ∧ (s.repeatExpiry k).composer.backlightOn = s.composer.backlightOn :=
  by unfold State.repeatExpiry; (repeat' split) <;> simp

@[simp] theorem State.onAck_composer (l : List Byte) :
    (s.takeMessage onAck l).composer.state = s.composer.state ∧ (s.takeMessage onAck l).composer.snapshot = s.composer.snapshot ∧
      (s.takeMessage onAck l).composer.front1 = s.composer.front1 ∧ (s.takeMessage onAck l).composer.buf0 = s.composer.buf0 ∧
      (s.takeMessage onAck l).composer.buf1 = s.composer.buf1 ∧ (s.takeMessage onAck l).composer.backlightOn = s.composer.backlightOn :=
  by unfold State.takeMessage onAck; (repeat' split) <;> simp

@[simp] theorem State.onHello_composer (l : List Byte) :
    (s.takeMessage onHello l).composer.state = s.composer.state ∧ (s.takeMessage onHello l).composer.snapshot = s.composer.snapshot ∧
      (s.takeMessage onHello l).composer.front1 = s.composer.front1 ∧ (s.takeMessage onHello l).composer.buf0 = s.composer.buf0 ∧
      (s.takeMessage onHello l).composer.buf1 = s.composer.buf1 ∧ (s.takeMessage onHello l).composer.backlightOn = s.composer.backlightOn :=
  by unfold State.takeMessage onHello; (repeat' split) <;> simp

@[simp] theorem State.onPrefilled_composer (l : List Byte) :
    (s.takeMessage onPrefilled l).composer.state = s.composer.state ∧ (s.takeMessage onPrefilled l).composer.snapshot = s.composer.snapshot ∧
      (s.takeMessage onPrefilled l).composer.front1 = s.composer.front1 ∧ (s.takeMessage onPrefilled l).composer.buf0 = s.composer.buf0 ∧
      (s.takeMessage onPrefilled l).composer.buf1 = s.composer.buf1 ∧ (s.takeMessage onPrefilled l).composer.backlightOn = s.composer.backlightOn :=
  by unfold State.takeMessage onPrefilled; (repeat' split) <;> first | simp | (unfold State.onNotice; split <;> simp)

@[simp] theorem State.onTriggered_composer (l : List Byte) :
    (s.takeMessage onTriggered l).composer.state = s.composer.state ∧ (s.takeMessage onTriggered l).composer.snapshot = s.composer.snapshot ∧
      (s.takeMessage onTriggered l).composer.front1 = s.composer.front1 ∧ (s.takeMessage onTriggered l).composer.buf0 = s.composer.buf0 ∧
      (s.takeMessage onTriggered l).composer.buf1 = s.composer.buf1 ∧ (s.takeMessage onTriggered l).composer.backlightOn = s.composer.backlightOn :=
  by unfold State.takeMessage onTriggered; (repeat' split) <;> first | simp | (unfold State.onNotice; split <;> simp)

@[simp] theorem State.onComplete_composer (l : List Byte) :
    (s.takeMessage onComplete l).composer.state = s.composer.state ∧ (s.takeMessage onComplete l).composer.snapshot = s.composer.snapshot ∧
      (s.takeMessage onComplete l).composer.front1 = s.composer.front1 ∧ (s.takeMessage onComplete l).composer.buf0 = s.composer.buf0 ∧
      (s.takeMessage onComplete l).composer.buf1 = s.composer.buf1 ∧ (s.takeMessage onComplete l).composer.backlightOn = s.composer.backlightOn :=
  by unfold State.takeMessage onComplete; (repeat' split) <;> first | simp | (unfold State.onNotice; split <;> simp)

@[simp] theorem State.portDeadline_composer  :
    s.portDeadline.composer.state = s.composer.state ∧ s.portDeadline.composer.snapshot = s.composer.snapshot ∧
      s.portDeadline.composer.front1 = s.composer.front1 ∧ s.portDeadline.composer.buf0 = s.composer.buf0 ∧
      s.portDeadline.composer.buf1 = s.composer.buf1 ∧ s.portDeadline.composer.backlightOn = s.composer.backlightOn :=
  by unfold State.portDeadline; (repeat' split) <;> simp

end Sys2Proof.Machine
end

