-- ==== Sys2Proof/Laws/Bytes.lean ====
section
/-! SUPPORT. What the byte helpers of 12_formats do, each said once. -/

namespace Sys2Proof.Machine

@[simp] theorem bytesBE_length (k n : Nat) : (bytesBE k n).length = k := by
  induction k generalizing n with
  | zero => rfl
  | succ k ih => simp [bytesBE, ih]

theorem natBE_cons (b : Byte) (l : List Byte) : natBE (b :: l) = b.toNat * 256 ^ l.length + natBE l := by
  have h : ∀ (l : List Byte) (a : Nat), l.foldl (fun acc b => acc * 256 + b.toNat) a =
      a * 256 ^ l.length + l.foldl (fun acc b => acc * 256 + b.toNat) 0 := by
    intro l
    induction l with
    | nil => intro a; simp
    | cons x l ih =>
      intro a
      simp only [List.foldl_cons]
      rw [ih, ih (0 * 256 + x.toNat)]
      simp [Nat.pow_succ]
      ring
  simp only [natBE, List.foldl_cons]
  rw [h]
  simp

/-- A number written in `k` bytes, most significant first, is read back modulo 256 to the `k`. -/
theorem natBE_bytesBE (k n : Nat) : natBE (bytesBE k n) = n % 256 ^ k := by
  induction k generalizing n with
  | zero => simp [bytesBE, natBE, Nat.mod_one]
  | succ k ih =>
    simp only [bytesBE, natBE_cons, bytesBE_length, ih]
    have hb : (byte (n / 256 ^ k)).toNat = n / 256 ^ k % 256 := by simp [byte]
    rw [hb, Nat.pow_succ, Nat.mod_mul (x := n), Nat.mul_comm (n / 256 ^ k % 256), Nat.add_comm]

theorem byte_toNat (n : Nat) (h : n < 256) : (byte n).toNat = n := by simp [byte]; omega

theorem takeBytes_append (k : Nat) (l r : List Byte) (h : l.length = k) : takeBytes k (l ++ r) = some (l, r) := by
  subst h; simp [takeBytes]

end Sys2Proof.Machine
end

