-- ==== Sys2Proof/Laws/Drafts.lean ====
section
/-! SUPPORT. What the first three stages of an application event leave alone: the counter, the stamps, the marks, the intents and the
STATUS fields (R2 to R4). -/

namespace Sys2Proof.Machine

/-- What no draft of an event writes. -/
def Table.ledger (t : Table) :
    Stamp × List (RecKey × Stamp) × List RecKey × List RecKey × List (RecKey × Intent) × SystemRec × AcqState × TrigStatus × BitVec 32 :=
  (t.counter, t.stamps, t.changeSet, t.retired, t.intents, t.system, t.acquire.acqState, t.acquire.trigStatus, t.acquire.acqCount)

theorem Acquire.put_status (a : Acquire) (f : Field) (v : Value) :
    (a.put f v).acqState = a.acqState ∧ (a.put f v).trigStatus = a.trigStatus ∧ (a.put f v).acqCount = a.acqCount := by
  unfold Acquire.put; split <;> simp

@[simp] theorem Table.put_ledger (t : Table) (r : Ref) (v : Value) : (t.put r v).ledger = t.ledger := by
  unfold Table.put; split <;> simp [Table.ledger, Acquire.put_status]

@[simp] theorem govern_ledger (n : Field → Bool) (old t : Table) (r : Ref) : (govern n old t r).ledger = t.ledger := by
  unfold govern; (repeat' split) <;> simp [Table.ledger]

@[simp] theorem staleMeasurements_ledger (p : Measurement → Bool) (t : Table) : (staleMeasurements p t).ledger = t.ledger := rfl

@[simp] theorem carryLevel_ledger (n : ChannelName) (a b : Channel) (t : Table) : (carryLevel n a b t).ledger = t.ledger := by
  unfold carryLevel; (repeat' split) <;> simp [Table.ledger]

@[simp] theorem finishRecord_ledger (old t : Table) (k : RecKey) : (finishRecord old t k).ledger = t.ledger := by
  unfold finishRecord; dsimp only; (repeat' split) <;> simp

@[simp] theorem applyField_ledger (items : Items) (t : Table) (r : Ref) (v : Value) : (applyField items t r v).1.ledger = t.ledger := by
  simp [applyField]

@[simp] theorem applyFields_ledger (items : Items) (k : RecKey) (fs : List Field) (t : Table) :
    (applyFields items k fs t).1.ledger = t.ledger := by
  induction fs generalizing t with
  | nil => rfl
  | cons f fs ih => unfold applyFields; split <;> simp [ih]

@[simp] theorem applyRecord_ledger (t : Table) (k : RecKey) (items : Items) : (applyRecord t k items).1.ledger = t.ledger := by
  simp [applyRecord]

@[simp] theorem applyEntry_ledger (t : Table) (e : Entry) : (applyEntry t e).ledger = t.ledger := by simp [applyEntry]

@[simp] theorem Table.addRecord_ledger (t : Table) (k : RecKey) : (t.addRecord k).ledger = t.ledger := by
  unfold Table.addRecord; split <;> simp [Table.ledger]

@[simp] theorem Table.removeRecord_ledger (t : Table) (k : RecKey) : (t.removeRecord k).ledger = t.ledger := by
  unfold Table.removeRecord; split <;> simp [Table.ledger]

@[simp] theorem Table.clearFocus_ledger (t : Table) (k : RecKey) : (t.clearFocus k).ledger = t.ledger := by
  unfold Table.clearFocus; (repeat' split) <;> simp [Table.ledger]

theorem foldl_ledger {α : Type} (f : Table → α → Table) (h : ∀ t x, (f t x).ledger = t.ledger) (l : List α) (t : Table) :
    (l.foldl f t).ledger = t.ledger := by
  induction l generalizing t with
  | nil => rfl
  | cons x l ih => simp [ih, h]

@[simp] theorem retireAll_ledger (t : Table) : (retireAll t).ledger = t.ledger := by
  unfold retireAll; exact foldl_ledger _ (by simp) _ _

@[simp] theorem panelWrite_ledger (t : Table) (r : Ref) (v : Option Value) : (panelWrite t r v).1.ledger = t.ledger := by
  unfold panelWrite; (repeat' split) <;> simp

@[simp] theorem detentSteps_ledger (r : Ref) (up : Bool) (n : Nat) (t : Table) : (detentSteps r up n t).1.ledger = t.ledger := by
  induction n generalizing t with
  | zero => rfl
  | succ n ih => unfold detentSteps; dsimp only; (repeat' split) <;> simp [ih]

@[simp] theorem detentsWrite_ledger (r : Ref) (up : Bool) (n : Nat) (t : Table) : (detentsWrite r up n t).1.ledger = t.ledger := by
  unfold detentsWrite; split <;> simp

@[simp] theorem intentWrite_ledger (t : Table) (k : RecKey) (i : Intent) : (intentWrite t k i).1.ledger = t.ledger := by
  unfold intentWrite; (repeat' split) <;> simp

@[simp] theorem retireDraft_ledger (t : Table) (k : RecKey) : (retireDraft t k).table.ledger = t.ledger := by simp [retireDraft]

@[simp] theorem runStateDraft_ledger (t : Table) (r : RunState) : (runStateDraft t r).table.ledger = t.ledger := rfl

@[simp] theorem recallDraft_ledger (t : Table) (i : Image) (m : Categories) : (recallDraft t i m).table.ledger = t.ledger := by
  unfold recallDraft; dsimp only; split
  · dsimp only
    rw [foldl_ledger _ (by simp), retireAll_ledger, foldl_ledger _ (by simp)]
  · exact foldl_ledger _ (by simp) _ _

@[simp] theorem factoryDraft_ledger (t : Table) : (factoryDraft t).table.ledger = t.ledger := by
  simp only [factoryDraft, retireAll_ledger]; exact foldl_ledger _ (by simp) _ _

@[simp] theorem writeDerived_ledger (p : Plan) (t : Table) : (writeDerived p t).ledger = t.ledger := rfl

/-- Stage 4 writes nothing that no draft writes. -/
@[simp] theorem Draft.planned_ledger (t : Table) (d : Draft) : (d.planned t).table.ledger = d.table.ledger := by
  unfold Draft.planned; split <;> rfl

end Sys2Proof.Machine
end

