-- ==== Sys2Proof/Laws/Keys.lean ====
section
/-! SUPPORT. The ordered sets and maps of record keys, and what stages 5 and 6 of an event do with them (R4, R5, R10 to R12). -/

namespace Sys2Proof.Machine

@[simp] theorem mem_insertKey {k j : RecKey} {l : List RecKey} : j ∈ insertKey k l ↔ j = k ∨ j ∈ l := by
  induction l with
  | nil => simp [insertKey]
  | cons x xs ih =>
    unfold insertKey; split
    · subst_vars; simp
    · split
      · simp
      · simp [ih]; tauto

@[simp] theorem mem_eraseKey {k j : RecKey} {l : List RecKey} : j ∈ eraseKey k l ↔ j ∈ l ∧ j ≠ k := by simp [eraseKey]

@[simp] theorem findKey_setKey_same {α : Type} (k : RecKey) (v : α) (l : List (RecKey × α)) :
    findKey k (setKey k v l) = some v := by
  induction l with
  | nil => simp [setKey, findKey]
  | cons p l ih => unfold setKey; (repeat' split) <;> simp_all [findKey]

theorem findKey_setKey_other {α : Type} {j k : RecKey} (h : j ≠ k) (v : α) (l : List (RecKey × α)) :
    findKey j (setKey k v l) = findKey j l := by
  induction l with
  | nil => simp [setKey, findKey, h]
  | cons p l ih => unfold setKey; (repeat' split) <;> simp_all [findKey]

@[simp] theorem findKey_dropKey_same {α : Type} (k : RecKey) (l : List (RecKey × α)) : findKey k (dropKey k l) = none := by
  induction l with
  | nil => rfl
  | cons p l ih =>
    unfold dropKey at *
    by_cases h : p.1 = k
    · rw [List.filter_cons_of_neg (by simp [h]), ih]
    · rw [List.filter_cons_of_pos (by simp [h])]; simp only [findKey]; rw [if_neg (Ne.symm h), ih]

theorem findKey_dropKey_other {α : Type} {j k : RecKey} (h : j ≠ k) (l : List (RecKey × α)) :
    findKey j (dropKey k l) = findKey j l := by
  induction l with
  | nil => rfl
  | cons p l ih =>
    unfold dropKey at *
    by_cases hx : p.1 = k
    · rw [List.filter_cons_of_neg (by simp [hx]), ih]; simp [findKey, hx, h]
    · rw [List.filter_cons_of_pos (by simp [hx])]; simp only [findKey, ih]

/-- The keys that an event stamps: those with an altered stamped field and those created. -/
@[simp] theorem mem_touchedKeys {k : RecKey} {altered : List Ref} {created : List RecKey} :
    k ∈ touchedKeys altered created ↔ (∃ r ∈ altered, r.key = k) ∨ k ∈ created := by
  simp [touchedKeys]

/-- The retirements of stage 5. -/
theorem foldl_forget (l : List RecKey) (t : Table) :
    (l.foldl (fun t k => t.forget k) t).counter = t.counter
      ∧ (∀ k ∈ l, findKey k (l.foldl (fun t k => t.forget k) t).stamps = none
          ∧ k ∉ (l.foldl (fun t k => t.forget k) t).changeSet ∧ k ∈ (l.foldl (fun t k => t.forget k) t).retired
          ∧ findKey k (l.foldl (fun t k => t.forget k) t).intents = none)
      ∧ ∀ k, k ∉ l → findKey k (l.foldl (fun t k => t.forget k) t).stamps = findKey k t.stamps
          ∧ (k ∈ (l.foldl (fun t k => t.forget k) t).changeSet ↔ k ∈ t.changeSet)
          ∧ (k ∈ (l.foldl (fun t k => t.forget k) t).retired ↔ k ∈ t.retired)
          ∧ findKey k (l.foldl (fun t k => t.forget k) t).intents = findKey k t.intents := by
  induction l generalizing t with
  | nil => simp
  | cons a l ih =>
    simp only [List.foldl_cons]
    obtain ⟨h1, h2, h3⟩ := ih (t.forget a)
    refine ⟨h1, fun k hk => ?_, fun k hk => ?_⟩
    · by_cases hkl : k ∈ l
      · exact h2 k hkl
      · obtain rfl : k = a := by simpa [hkl] using hk
        simpa [Table.forget] using h3 k hkl
    · have hk : k ≠ a ∧ k ∉ l := by simpa using hk
      have := h3 k hk.2
      simpa [Table.forget, findKey_dropKey_other hk.1, hk.1] using this

/-- The stamps and marks of stages 5 and 6. -/
theorem foldl_mark (x : Stamp) (l : List RecKey) (t : Table) :
    (l.foldl (fun t k => t.mark x k) t).counter = t.counter
      ∧ (l.foldl (fun t k => t.mark x k) t).intents = t.intents
      ∧ (∀ k ∈ l, findKey k (l.foldl (fun t k => t.mark x k) t).stamps = some x
          ∧ k ∈ (l.foldl (fun t k => t.mark x k) t).changeSet ∧ k ∉ (l.foldl (fun t k => t.mark x k) t).retired)
      ∧ ∀ k, k ∉ l → findKey k (l.foldl (fun t k => t.mark x k) t).stamps = findKey k t.stamps
          ∧ (k ∈ (l.foldl (fun t k => t.mark x k) t).changeSet ↔ k ∈ t.changeSet)
          ∧ (k ∈ (l.foldl (fun t k => t.mark x k) t).retired ↔ k ∈ t.retired) := by
  induction l generalizing t with
  | nil => simp
  | cons a l ih =>
    simp only [List.foldl_cons]
    obtain ⟨h1, h0, h2, h3⟩ := ih (t.mark x a)
    refine ⟨h1, h0, fun k hk => ?_, fun k hk => ?_⟩
    · by_cases hkl : k ∈ l
      · exact h2 k hkl
      · obtain rfl : k = a := by simpa [hkl] using hk
        simpa [Table.mark] using h3 k hkl
    · have hk : k ≠ a ∧ k ∉ l := by simpa using hk
      have := h3 k hk.2
      simpa [Table.mark, findKey_setKey_other hk.1, hk.1] using this

theorem foldl_forget_records (l : List RecKey) (t : Table) :
    (l.foldl (fun t k => t.forget k) t) =
      { t with stamps := (l.foldl (fun t k => t.forget k) t).stamps, changeSet := (l.foldl (fun t k => t.forget k) t).changeSet
               retired := (l.foldl (fun t k => t.forget k) t).retired, intents := (l.foldl (fun t k => t.forget k) t).intents } := by
  induction l generalizing t with
  | nil => rfl
  | cons a l ih => simp only [List.foldl_cons]; rw [ih]; rfl

theorem foldl_mark_records (x : Stamp) (l : List RecKey) (t : Table) :
    (l.foldl (fun t k => t.mark x k) t) =
      { t with stamps := (l.foldl (fun t k => t.mark x k) t).stamps
               changeSet := (l.foldl (fun t k => t.mark x k) t).changeSet
               retired := (l.foldl (fun t k => t.mark x k) t).retired } := by
  induction l generalizing t with
  | nil => rfl
  | cons a l ih => simp only [List.foldl_cons]; rw [ih]; rfl

/-- Stages 4 to 7 write the records only where stage 4 writes the DERIVED fields: the rest of the records are the draft's. -/
theorem eventTable_records (o : Owner) (d : Draft) (t : Table)
    (h : ¬ (alteredRefs t (d.planned t) = [] ∧ d.created = [] ∧ d.retired = [])) :
    eventTable o d t = { (d.planned t).table with
      counter := (eventTable o d t).counter, stamps := (eventTable o d t).stamps, changeSet := (eventTable o d t).changeSet
      retired := (eventTable o d t).retired, intents := (eventTable o d t).intents } := by
  have hp : (d.planned t).created = d.created ∧ (d.planned t).retired = d.retired := by unfold Draft.planned; split <;> simp
  have h' : ((alteredRefs t (d.planned t)).isEmpty && d.created.isEmpty && d.retired.isEmpty) = false := by
    rw [Bool.eq_false_iff]; intro hc; apply h; simpa [and_assoc] using hc
  unfold eventTable
  simp only [h', Bool.false_eq_true, if_false]
  unfold stampEvent dropIntents
  dsimp only
  split <;> split <;> first | rw [foldl_mark_records, foldl_forget_records] | rw [foldl_forget_records]

end Sys2Proof.Machine
end

