-- ==== Sys2Proof/Laws/Requests.lean ====
section
/-! SUPPORT. What a request row does to the machine once its block's answer is known (R159, R160). -/

namespace Sys2Proof.Machine

theorem Req.ofByte_byte (r : Req) : Req.ofByte r.byte = some r := by cases r <;> decide

/-- A block leaves the link, the reset flag and the queue alone. -/
theorem requestRow_frame (c : Instr) (row : RequestRow) (h : requestRow c = some row) (body : List Byte) (s : State) :
    (row.block body s).1.link = s.link ∧ (row.block body s).1.inReset = s.inReset ∧ (row.block body s).1.pending = s.pending := by
  cases c <;> simp only [requestRow, Option.some.injEq, reduceCtorEq] at h <;> subst h <;> simp

/-- What the machine runs for a request row. -/
def RequestRow.effect (row : RequestRow) (s : State) : State :=
  match row.sub with
  | none => s.answerRequest row.req row.block
  | some sub => s.answerSub row.req sub row.block

theorem exec_requestRow (c : Instr) (row : RequestRow) (h : requestRow c = some row) (s : State) :
    exec c s = command row.effect s := by
  cases c <;> simp only [requestRow, Option.some.injEq, reduceCtorEq] at h <;> subst h <;> rfl

/-- The request in hand is a row's: its block answers it. -/
theorem RequestRow.effect_taken (row : RequestRow) (body : List Byte) (s : State) (h : s.link.inHand = some (row.frame body)) :
    row.effect s = (row.block body s).1.answer row.req.byte (row.block body s).2 := by
  obtain ⟨r, sub, block⟩ := row
  cases sub <;>
    simp [RequestRow.effect, State.answerRequest, State.answerSub, h, RequestRow.frame, Req.ofByte_byte]

theorem Req.byte_ofByte (b : Byte) (r : Req) (h : Req.ofByte b = some r) : b = r.byte := by
  unfold Req.ofByte at h
  split at h
  · cases h
  · rename_i h0
    obtain ⟨hlt, hg⟩ := List.getElem?_eq_some_iff.1 h
    have hb : b.toNat ≠ 0 := fun hc => h0 (by apply BitVec.eq_of_toNat_eq; simpa using hc)
    have hn : Req.positions.Nodup := by decide
    have hi : Req.positions.idxOf r = b.toNat - 1 := by rw [← hg]; exact hn.idxOf_getElem _ hlt
    have : b.toNat < 256 := b.isLt
    apply BitVec.eq_of_toNat_eq
    simp only [Req.byte, hi, Machine.byte, BitVec.toNat_ofNat]
    omega

/-- The request in hand is no row's: nothing happens. -/
theorem RequestRow.effect_idle (row : RequestRow) (s : State) (h : ∀ body, s.link.inHand ≠ some (row.frame body)) :
    row.effect s = s := by
  obtain ⟨r, sub, block⟩ := row
  cases sub with
  | none =>
    simp only [RequestRow.effect, State.answerRequest]
    split
    · rename_i f hf
      split
      · rename_i hr
        exact absurd hf (by have := h f.body; rwa [show RequestRow.frame ⟨r, none, block⟩ f.body = f by
          simp [RequestRow.frame, ← Req.byte_ofByte _ _ hr]] at this)
      · rfl
    · rfl
  | some x =>
    simp only [RequestRow.effect, State.answerSub]
    split
    · rename_i f hf
      split
      · rename_i hr
        obtain ⟨k, b⟩ := f
        obtain ⟨hr, hb⟩ := hr
        obtain ⟨tl, rfl⟩ : ∃ tl, b = x :: tl := by cases b <;> simp_all
        exact absurd hf (by have := h tl; rwa [show RequestRow.frame ⟨r, some x, block⟩ tl = ⟨k, x :: tl⟩ by
          simp [RequestRow.frame, ← Req.byte_ofByte _ _ hr]] at this)
      · rfl
    · rfl

theorem State.takeHeld_of_none (s : State) (h : s.link.held = none) : s.takeHeld = s := by
  unfold State.takeHeld; rw [h]; split <;> simp_all

/-- A request row whose request is in hand, with nothing held behind it: the block's state, answered. -/
theorem exec_asks (c : Instr) (row : RequestRow) (hc : requestRow c = some row) (body : List Byte) (s : State)
    (h : s.asks (row.frame body)) :
    exec c s = .next ({ (row.block body s.begin).1 with link :=
      { inHand := none, held := none, response := responseFrame row.req.byte (row.block body s.begin).2, attn := s.link.attn } }).settle := by
  obtain ⟨hr, hi, hh⟩ := h
  rw [exec_requestRow c row hc, command_next _ _ hr, RequestRow.effect_taken _ body _ (by simpa using hi)]
  have hl := (requestRow_frame c row hc body s.begin).1
  congr 2
  rw [State.answer, State.takeHeld_of_none]
  · simp only [State.respond, State.onLink, hl]
    simp [hh]
  · simp [State.respond, hl, hh]

end Sys2Proof.Machine
end

