-- ==== Sys2Proof/Laws/Port.lean ====
section
/-! SUPPORT. What the port, the bank table and the Run Controller's shared operations do, each said once (R81 to R96). -/

namespace Sys2Proof.Machine

/-- The port takes its next request from the head of the queue: of the Run Controller's part only the queue can change. -/
@[simp] theorem State.pump_run (s : State) :
    s.pump.run.forceOrigin = s.run.forceOrigin ∧ s.pump.run.forcePending = s.run.forcePending
      ∧ s.pump.run.autoTimer = s.run.autoTimer ∧ s.pump.run.banks = s.run.banks := by
  unfold State.pump; (repeat' split) <;> simp [State.sendRequest, State.reduceFailed]

/-- What becomes of the queue when the port takes its next request (R93, R94). -/
theorem State.pump_queued (s : State) (q : List RcRequest) (h : s.run.queue = q) (ho : s.out.capture = []) :
    State.queued q s s.pump := by
  subst h
  unfold State.queued
  split
  · rename_i hd tl hq
    unfold State.pump
    split <;> simp [hq, ho, State.sendRequest, State.sendMessage]
  · rename_i hq
    unfold State.pump
    split
    · simp only [hq]; (repeat' split) <;> simp [hq, State.sendRequest, State.reduceFailed]
    · exact hq

/-- A port that is not free takes nothing (R94). -/
theorem State.pump_of_not_free (s : State) (h : s.table.system.captureOnline = false ∨ s.port.outstanding ≠ none) : s.pump = s := by
  unfold State.pump; rw [if_neg]; rcases h with h | h <;> simp [h]

/-- With nothing in the queue and no REDUCE waiting there is nothing to take (R94). -/
theorem State.pump_of_nothing (s : State) (hq : s.run.queue = []) (hw : s.port.waiting = none) : s.pump = s := by
  unfold State.pump; simp [hq, hw]

/-- With no REDUCE waiting only the outstanding request of the port can change, and nothing of the Composer (R94). -/
theorem State.pump_of_no_reduce (s : State) (hw : s.port.waiting = none) :
    s.pump.composer = s.composer ∧ s.pump.port = { s.port with outstanding := s.pump.port.outstanding } := by
  unfold State.pump
  rw [hw]
  (repeat' split) <;> first | exact ⟨rfl, rfl⟩ | contradiction

/-- A FORCE by the state it finds (R87): everywhere but in READY with no FORCE issued, force-pending alone may change. -/
theorem State.forceTrigger_cases (s : State) :
    (∃ x, s.table.acquire.acqState = .ready ∧ s.run.forceOrigin = .none ∧ s.run.banks.find .filling = some x
        ∧ s.forceTrigger = ((s.onRun fun r => { r with autoTimer := none, forceOrigin := .user }).enqueue (.force x), .done))
      ∨ (s.run.forcePending = false ∧ (s.table.acquire.acqState = .arming ∨ s.table.acquire.acqState = .waitBank)
        ∧ s.forceTrigger = (s.onRun fun r => { r with forcePending := true }, .done))
      ∨ (∃ code, s.forceTrigger = (s, code)) := by
  unfold State.forceTrigger
  (repeat' split) <;> simp_all

/-- A queue statement carries over to states that agree in what it reads. -/
theorem State.queued_of_eq {q : List RcRequest} {s s' t t' : State} (h : State.queued q s t)
    (h1 : s'.table.system.captureOnline = s.table.system.captureOnline) (h2 : s'.port.outstanding = s.port.outstanding)
    (h3 : t'.run.queue = t.run.queue) (h4 : t'.port.outstanding = t.port.outstanding) (h5 : t'.clock.now = t.clock.now)
    (h6 : t'.out.capture = t.out.capture) : State.queued q s' t' := by
  unfold State.queued at *; rw [h1, h2, h3, h4, h5, h6]; exact h

/-- An arm (R82): with a FREE bank, ARMING with that bank FILLING and its ARM at the tail of the queue. -/
theorem State.arm_of_free (s : State) (x : Bank) (h : s.run.banks.find .free = some x) :
    s.arm.table = { s.table with acquire := { s.table.acquire with acqState := .arming, trigStatus := .waiting } }
      ∧ s.arm.run = { s.run with
          banks := s.run.banks.set x { state := .filling, armed := false, desc := some (descriptorOf s.planner s.table) }
          queue := s.run.queue ++ [.arm x s.planner.plan s.planner.front s.planner.trig], forceOrigin := .none } := by
  unfold State.arm
  simp [h, State.setAcqState_table, State.setTrigStatus_table]

/-- An arm with no FREE bank: WAIT_BANK (R82). -/
theorem State.arm_of_none (s : State) (h : s.run.banks.find .free = none) :
    s.arm.table = { s.table with acquire := { s.table.acquire with acqState := .waitBank } } ∧ s.arm.run = s.run := by
  unfold State.arm
  simp [h, State.setAcqState_table]

/-- A trigger taken (R85). -/
theorem State.trigger_effect (x : Bank) (forced : Bool) (s : State) :
    (s.trigger x forced).table = { s.table with acquire := { s.table.acquire with
        acqState := .triggered, trigStatus := trigStatusOf forced s.run.forceOrigin } }
      ∧ (s.trigger x forced).run = { s.run with
          autoTimer := none, forcePending := false, queue := s.run.queue.filter fun q => !q.isForce x } := by
  unfold State.trigger
  simp [State.setAcqState_table, State.setTrigStatus_table, State.unqueue, State.onRun]

@[simp] theorem Banks.get_set_same (b : Banks) (x : Bank) (e : BankEntry) : (b.set x e).get x = e := by cases x <;> rfl

@[simp] theorem Banks.get_set_other (b : Banks) (x : Bank) (e : BankEntry) : (b.set x e).get x.other = b.get x.other := by
  cases x <;> rfl

theorem Banks.find_some {b : Banks} {st : BankState} {x : Bank} (h : b.find st = some x) : (b.get x).state = st := by
  unfold Banks.find at h
  repeat' split at h
  all_goals simp at h
  all_goals subst h; assumption

/-- A report of a class adds exactly that report to the fault table (R169). -/
theorem State.report_reported (c : FaultClass) (d : Option FaultDetail) (s : State) :
    Faults.reported c d s.faults (s.report c d).faults := by
  refine ⟨fun e he => ?_, fun k hk => ?_, rfl⟩
  · simp [State.report, he, FaultEntry.report]
  · simp [State.report, Ne.symm hk]

/-- The event of owner fault is submitted exactly at STOP severity (R170). -/
theorem State.report_inbox (c : FaultClass) (d : Option FaultDetail) (s : State) :
    (s.faults.stops c → (s.report c d).inbox = { s.inbox with ownerFault := s.inbox.ownerFault + 1 })
      ∧ (¬ s.faults.stops c → (s.report c d).inbox = s.inbox) := by
  constructor
  · rintro ⟨e, he, hs⟩; simp [State.report, he, hs]
  · intro h
    simp only [State.report]
    rw [if_neg]
    intro hc
    obtain ⟨e, he, hs⟩ := (Option.any_eq_true _ _).1 hc
    exact h ⟨e, he, by simpa using hs⟩

end Sys2Proof.Machine
end

