-- ==== Sys2Proof/Laws/Storage.lean ====
section
/-! SUPPORT. What the Storage Engine's shared operations do, each said once (R144 to R155). -/

namespace Sys2Proof.Machine

variable (s : State)

/-- An operation that ends records its result and leaves the engine IDLE with nothing in hand (R145). -/
theorem State.endOp_ended (o : OpInHand) (r : OpOutcome) : s.ended o r (s.endOp o r) := by
  simp [State.ended, State.endOp, Engine.record, State.onEngine, State.setStoreState_table, Bool.or_assoc]

/-- What the end of an operation leaves beside its result. -/
theorem State.endOp_engine (o : OpInHand) (r : OpOutcome) :
    (s.endOp o r).engine.directory = s.engine.directory ∧ (s.endOp o r).engine.image = s.engine.image
      ∧ (s.endOp o r).engine.flashBusy = s.engine.flashBusy ∧ (s.endOp o r).engine.protect = s.engine.protect
      ∧ (s.endOp o r).engine.waitReady = false ∧ (s.endOp o r).engine.deadline = none
      ∧ (s.endOp o r).faults = s.faults ∧ (s.endOp o r).out = s.out := by
  simp [State.endOp, Engine.record, State.onEngine]

/-- A STORE or ERASE that ends FAILED sets its slot's entry, reports STORE_FAIL and records its result (R149, R152). -/
theorem State.failWrite_endedFailed (o : OpInHand) (r : Reason) (e : SlotEntry) : s.endedFailed o r e (s.failWrite o r e) := by
  refine ⟨?_, ?_, ?_⟩
  · simpa [State.ended, State.setSlot, State.onEngine, State.failWrite] using
      State.endOp_ended ((s.setSlot o.slot e).report .storeFail (some (.storeFail o.slot r))) o (.failed r)
  · simp [State.failWrite, State.endOp_engine, State.setSlot, State.onEngine]
  · simpa [State.failWrite, State.endOp_engine, State.setSlot, State.onEngine] using
      State.report_reported .storeFail (some (.storeFail o.slot r)) (s.setSlot o.slot e)

/-- An operation's first flash operation is issued, or held back while the flash may still be busy (R149). -/
theorem State.firstFlashOp_started (op : FlashOp) (limit : Option Nat) (h : s.out.flash = []) :
    State.flashStarted op limit s (s.firstFlashOp op limit) := by
  unfold State.flashStarted State.firstFlashOp
  split <;> simp [State.onEngine, State.issueFlash, h]

/-- The first flash operation of an operation leaves everything but whether it waits, and its deadline (R149). -/
theorem State.startFlash_engine :
    s.startFlash.engine = { s.engine with waitReady := s.startFlash.engine.waitReady, deadline := s.startFlash.engine.deadline } := by
  unfold State.startFlash State.firstFlashOp
  (repeat' split) <;> rfl

/-- An operation that begins is in hand in its first phase, with the directory, the image and the last result as they were (R144). -/
theorem State.beginOp_effect (st : StoreState) (o : OpInHand) (phase : Option Phase) :
    (s.beginOp st o phase).table = { s.table with system := { s.table.system with storeState := st } }
      ∧ (s.beginOp st o phase).engine = { s.engine with
          op := some o, phase := phase, page := none
          waitReady := (s.beginOp st o phase).engine.waitReady, deadline := (s.beginOp st o phase).engine.deadline } := by
  refine ⟨by simp [State.beginOp, State.setStoreState_table, State.onEngine], ?_⟩
  rw [State.beginOp, State.startFlash_engine]
  simp [State.onEngine]

/-- The reads of a start-up scan leave on the storage line in slot order (R154). -/
theorem State.readSlots_out (l : List Nat) :
    (l.foldl (fun s slot => State.issueFlash (.read (slotAddress slot)) s) s).out.flash =
      s.out.flash ++ l.map fun n => .read (slotAddress n) := by
  induction l generalizing s with
  | nil => simp
  | cons a l ih => rw [List.foldl_cons, ih]; simp [State.issueFlash]

/-- A page is started (R148). -/
theorem State.programPage_effect (slot page : Nat) :
    (s.programPage slot page).engine =
        { s.engine with phase := some .program, page := some page, deadline := some (after s.clock.now 10000) }
      ∧ (s.programPage slot page).out.flash = s.out.flash ++ [.pageProgram (pageAddress slot page) (pageData s.engine.image page)] := by
  simp [State.programPage, State.onEngine, State.issueFlash]

/-- An operation in hand whose flash operation has been issued is found in its phase. -/
theorem Engine.inPhase_some (e : Engine) (o : OpInHand) (ph : Option Phase) (ho : e.op = some o) (hp : e.phase = ph)
    (hw : e.waitReady = false) : e.inPhase o.op ph = some o := by
  simp [Engine.inPhase, ho, hp, hw]

end Sys2Proof.Machine
end

