-- ==== Sys2Proof/Laws/Composer.lean ====
section
/-! SUPPORT. What the Composer's two requests of the Run Controller and a frame start do, each said once (R81, R102 to R107). -/

namespace Sys2Proof.Machine

/-- With one bank HELD and one SHOWN the SHOWN one is the other bank. -/
theorem Banks.shown_other {b : Banks} {x y : Bank} (hx : b.find .held = some x) (hy : b.find .shown = some y) :
    y = x.other ∧ (b.get x).state = .held ∧ (b.get y).state = .shown := by
  have h1 := Banks.find_some hx
  have h2 := Banks.find_some hy
  refine ⟨?_, h1, h2⟩
  cases x <;> cases y <;> simp_all [Bank.other]

variable (s : State)

@[simp] theorem State.pump_recompose : s.pump.composer.recompose = s.composer.recompose := by
  unfold State.pump; (repeat' split) <;> simp [State.reduceFailed, State.sendRequest]

@[simp] theorem State.advanceTrace_recompose : s.advanceTrace.composer.recompose = s.composer.recompose := by
  unfold State.advanceTrace State.offerReduce
  dsimp only
  (repeat' split) <;> simp [State.reduceFailed]

@[simp] theorem State.advanceTrace_banks : s.advanceTrace.run.banks = s.run.banks := by
  unfold State.advanceTrace State.offerReduce
  dsimp only
  (repeat' split) <;> simp [State.reduceFailed]

/-- The frame end request with no bank HELD does nothing (R81). -/
theorem State.endBank_of_none (hx : s.run.banks.find .held = none) : s.endBank = s := by
  unfold State.endBank; rw [hx]

/-- The frame end request with a bank HELD and one SHOWN: the HELD one stays, and the SHOWN one is freed and, in WAIT_BANK, armed (R81). -/
theorem State.endBank_effect (x y : Bank) (hx : s.run.banks.find .held = some x) (hy : s.run.banks.find .shown = some y) :
    s.endBank.run.banks.get x = s.run.banks.get x
      ∧ (s.table.acquire.acqState ≠ .waitBank → (s.endBank.run.banks.get y).state = .free)
      ∧ (s.table.acquire.acqState = .waitBank → (s.endBank.run.banks.get y).state = .filling) := by
  obtain ⟨rfl, h1, h2⟩ := Banks.shown_other hx hy
  have e : s.endBank = ((s.onBanks (·.move x.other .free)).bankFreed).pump := by simp [State.endBank, hx, hy]
  rw [e]
  have hf : (s.onBanks (·.move x.other .free)).run.banks.find .free = some x.other := by
    cases x <;> simp_all [State.onBanks, State.onRun, Banks.find, Banks.move, Banks.set, Banks.get, Bank.other, BankEntry.free]
  have ha := State.arm_of_free _ _ hf
  have hg : (s.onBanks (·.move x.other .free)).run.banks = s.run.banks.move x.other .free := rfl
  have ht : (s.onBanks (·.move x.other .free)).table = s.table := rfl
  generalize (s.onBanks (·.move x.other .free)) = S at *
  refine ⟨?_, ?_, ?_⟩
  · unfold State.bankFreed
    split
    · simp [ha, hg, Banks.move]; cases x <;> rfl
    · simp [hg, Banks.move]; cases x <;> rfl
  · intro hw
    simp [State.bankFreed, ht, hw, hg, Banks.move, BankEntry.free]
  · intro hw
    simp [State.bankFreed, ht, hw, ha]

/-- The frame start request with no bank HELD does nothing (R81). -/
theorem State.takeBank_of_none (hx : s.run.banks.find .held = none) : s.takeBank = s := by
  unfold State.takeBank; rw [hx]

/-- The frame start request with a bank HELD: it is SHOWN, and the bank SHOWN before is freed and, in WAIT_BANK, armed (R81). -/
theorem State.takeBank_effect (x : Bank) (hx : s.run.banks.find .held = some x) :
    (s.takeBank.run.banks.get x).state = .shown ∧ (s.takeBank.run.banks.get x).desc = (s.run.banks.get x).desc
      ∧ ∀ y, s.run.banks.find .shown = some y →
          (s.table.acquire.acqState ≠ .waitBank → (s.takeBank.run.banks.get y).state = .free)
          ∧ (s.table.acquire.acqState = .waitBank → (s.takeBank.run.banks.get y).state = .filling
              ∧ s.takeBank.table.acquire.acqState = .arming) := by
  cases hy : s.run.banks.find .shown with
  | none =>
    have e : s.takeBank = s.onBanks (·.move x .shown) := by simp [State.takeBank, hx, hy]
    rw [e]; simp [State.onBanks, State.onRun, Banks.move]
  | some y =>
    obtain ⟨rfl, h1, h2⟩ := Banks.shown_other hx hy
    have e : s.takeBank = ((s.onBanks fun b => (b.move x.other .free).move x .shown).bankFreed).pump := by
      simp [State.takeBank, hx, hy]
    rw [e]
    have hf : (s.onBanks fun b => (b.move x.other .free).move x .shown).run.banks.find .free = some x.other := by
      cases x <;> simp_all [State.onBanks, State.onRun, Banks.find, Banks.move, Banks.set, Banks.get, Bank.other, BankEntry.free]
    have ha := State.arm_of_free _ _ hf
    have hg : (s.onBanks fun b => (b.move x.other .free).move x .shown).run.banks =
      (s.run.banks.move x.other .free).move x .shown := rfl
    have ht : (s.onBanks fun b => (b.move x.other .free).move x .shown).table = s.table := rfl
    generalize (s.onBanks fun b => (b.move x.other .free).move x .shown) = S at *
    refine ⟨?_, ?_, ?_⟩
    · unfold State.bankFreed
      split
      · simp [ha, hg]; cases x <;> rfl
      · simp [hg, Banks.move]
    · unfold State.bankFreed
      split
      · simp [ha, hg, Banks.move]; cases x <;> rfl
      · simp [hg, Banks.move]; cases x <;> rfl
    · intro y hy
      cases hy
      refine ⟨?_, ?_⟩
      · intro hw; simp [State.bankFreed, ht, hw, hg, Banks.move, BankEntry.free]
      · intro hw; simp [State.bankFreed, ht, hw, ha]

/-- A frame start (R105): with `S` the state after the flag is cleared and the frame start request made, the snapshot is of `S`, the BACK
buffer holds the graticule alone, and the FRONT buffer is as it was. -/
theorem State.frameStart_effect (S : State)
    (hS : S = ({ s with composer := { s.composer with recompose := false } } : State).takeBank) :
    s.frameStart.composer.front = s.composer.front ∧ s.frameStart.composer.front1 = s.composer.front1
      ∧ s.frameStart.composer.state = .composing
      ∧ s.frameStart.composer.back = FrameBuffer.draw [] (graticuleLayer s.table.display.graticule)
      ∧ s.frameStart.composer.snapshot = some (snapshotOf S.table S.run.banks)
      ∧ s.frameStart.table = S.table ∧ s.frameStart.run.banks = S.run.banks
      ∧ s.frameStart.composer.recompose = S.composer.recompose := by
  have hg : ∀ t b, (snapshotOf t b).graticule = t.display.graticule := fun _ _ => rfl
  have hd : S.table.display = s.table.display := by
    have := State.takeBank_settings { s with composer := { s.composer with recompose := false } }
    rw [← hS] at this
    simpa [Table.settings] using congrArg (fun t => t.display) this
  have hc := State.takeBank_composer { s with composer := { s.composer with recompose := false } }
  rw [← hS] at hc
  unfold State.frameStart
  dsimp only
  rw [← hS]
  clear hS
  simp only at hc
  obtain ⟨-, -, h3, h4, h5, -⟩ := hc
  rw [← hd, ← hg S.table S.run.banks]
  generalize snapshotOf S.table S.run.banks = v
  split
  · refine ⟨?_, ?_, ?_, ?_, ?_, ?_, ?_, ?_⟩ <;>
      simp only [Composer.beginFrame, Composer.clearBack, Composer.drawBack, Composer.front, Composer.back, h3] <;>
      cases s.composer.front1 <;> simp [h4, h5]
  · refine ⟨?_, ?_, ?_, ?_, ?_, ?_, ?_, ?_⟩ <;>
      simp only [Composer.front, Composer.back, State.advanceTrace_composer, State.advanceTrace_frame, State.advanceTrace_recompose,
        State.advanceTrace_banks, Composer.beginFrame, Composer.clearBack, Composer.drawBack, h3] <;>
      cases s.composer.front1 <;> simp [h4, h5]

end Sys2Proof.Machine
end

