-- ==== Sys2Proof/Tests/Slice0.lean ====
section
/-! SUPPORT. Tests on small states: the well-formedness checks, the manual's worked figures, and for each obligation with hypotheses a
state and operands that meet them, clause by clause. -/

namespace Sys2Proof.Tests

open Sys2Proof Sys2Proof.Machine

/-! ## Small states -/

/-- The state after reset with the reset ended. -/
def live : State := { State.reset with inReset := false }

/-- A request in hand. -/
def asking (kind : Byte) (body : List Byte) (s : State) : State := { s with link := { s.link with inHand := some ⟨kind, body⟩ } }

/-- The Run Controller in a state, the port with it. -/
def acq (a : AcqState) (s : State) : State :=
  { s with table := { s.table with
      acquire := { s.table.acquire with acqState := a }
      system := { s.table.system with captureOnline := decide (a ≠ .offline) } } }

/-- A bank's entry. -/
def bank (x : Bank) (st : BankState) (armed : Bool) (s : State) : State :=
  { s with run := { s.run with banks := s.run.banks.set x { state := st, armed := armed, desc := none } } }

/-- An outstanding request of the port. -/
def waitingOn (q : PortRequest) (s : State) : State := { s with port := { s.port with outstanding := some (q, 2000) } }

/-- The Storage Engine in a state. -/
def store (x : StoreState) (s : State) : State :=
  { s with table := { s.table with system := { s.table.system with storeState := x, storePresent := decide (x ≠ .absent) } } }

/-- An operation in hand with its phase. -/
def working (o : Operation) (slot : Nat) (ph : Option Phase) (page : Option Nat) (s : State) : State :=
  { s with engine := { s.engine with op := some { op := o, slot := slot, mask := .all }, phase := ph, page := page } }

/-- Slot 31 VALID and the others EMPTY. -/
def makerSlot (s : State) : State :=
  { s with engine := { s.engine with directory := List.replicate 31 .empty ++ [.valid none .all 4] } }

/-- A panel action waiting at the table. -/
def inboxWith (l : List PanelAction) (s : State) : State := { s with inbox := { s.inbox with actions := l } }

/-- The panel's authority. -/
def authority (n : Nat) (s : State) : State :=
  { s with table := { s.table with panel := { s.table.panel with authority := n } } }

/-- A sector with no image of this part in it. -/
def blank (b : Byte) : List Byte := List.replicate 4096 b

/-- An image of DISPLAY's factory settings. -/
def displayImage : List Byte :=
  buildImage State.reset.table ⟨false, false, false, false, true, false⟩ none

theorem blank_length (b : Byte) : (blank b).length = 4096 := List.length_replicate ..

/-! ## Well-formed operands: one ill-formed command for each check -/

theorem test_write_period_starting_ffh_is_ill_formed : (Instr.writePeriod [0xFF, 0]).wellFormed = false := by decide
theorem test_scan_of_no_sectors_is_ill_formed : (Instr.startUpScan []).wellFormed = false := by decide
theorem test_scan_of_short_sectors_is_ill_formed : (Instr.startUpScan (List.replicate 32 [])).wellFormed = false := by decide
theorem test_store_erase_error_needs_a_sector : (Instr.storeEraseDone 0x20 []).wellFormed = false := by decide
theorem test_page_error_needs_a_sector : (Instr.pageProgramDone 0x40 []).wellFormed = false := by decide
theorem test_verify_needs_a_sector : (Instr.verify []).wellFormed = false := by decide
theorem test_recall_needs_a_sector : (Instr.recallRead []).wellFormed = false := by decide
theorem test_slot_erase_error_needs_a_sector : (Instr.slotEraseDone 0x20 []).wellFormed = false := by decide
theorem test_ill_formed_stops : exec (.verify []) live = .fault .malformedCommand := by rfl


/-! ## The manual's figures -/

/-- The CRC-16 of the nine digits is 29B1h, as another implementation of R158's code computes it. -/
theorem test_crc16_check : crc16 [0x31, 0x32, 0x33, 0x34, 0x35, 0x36, 0x37, 0x38, 0x39] = 0x29B1 := by decide +kernel

/-- The header from byte 4 on, and the body, of an image of ACQUIRE alone with no label (12_formats, R141), in a format version. -/
def acquireImage (version : Byte) : List Byte := [version, 4, 0, 4, 8, 0] ++ List.replicate 50 0xFF ++ [4, 1, 1, 0]

set_option maxRecDepth 10000 in
/-- The CRC-32 of these 60 bytes (R176), as another implementation computes it. -/
theorem test_crc32_of_image : crc32 (acquireImage 1) = 0xC1CF48BA ∧ crc32 (acquireImage 2) = 0x45CADD6A := by
  constructor <;> simp [crc32, acquireImage, List.replicate, crc32Byte, crc32Bit, Nat.repeat]

/-- A sector that holds the image with a CRC. -/
def acquireSector (version : Byte) (crc : List Byte) : List Byte :=
  imageTag ++ (acquireImage version).take 56 ++ crc ++ [4, 1, 1, 0] ++ List.replicate 4028 0xFF

def validSector : List Byte := acquireSector 1 [0xC1, 0xCF, 0x48, 0xBA]
def foreignSector : List Byte := acquireSector 2 [0x45, 0xCA, 0xDD, 0x6A]

theorem validSector_length : validSector.length = 4096 := by decide +kernel

/-- The seven tests of R142 find an image VALID. -/
theorem test_sector_valid (t : Table) (ht : t = live.table) : ∃ i, classify t validSector = .valid i := by
  subst ht
  have h : (validSector.drop 4).take 56 ++ (validSector.drop 64).take (natBE ((validSector.drop 6).take 2)) = acquireImage 1 := by
    decide +kernel
  unfold classify
  dsimp only
  rw [h, test_crc32_of_image.1, if_neg (by decide +kernel), if_neg (by decide +kernel), if_neg (by decide +kernel),
    if_neg (by decide +kernel), if_neg (by decide +kernel)]
  cases hi : readImage live.table validSector (natBE ((validSector.drop 6).take 2)) with
  | some i => exact ⟨i, rfl⟩
  | none => exact absurd hi (by decide +kernel)

/-- Another format version with its CRC right is FOREIGN (R142 test 5). -/
theorem test_sector_foreign (t : Table) : classify t foreignSector = .foreign := by
  have h : (foreignSector.drop 4).take 56 ++ (foreignSector.drop 64).take (natBE ((foreignSector.drop 6).take 2)) = acquireImage 2 := by
    decide +kernel
  unfold classify
  dsimp only
  rw [h, test_crc32_of_image.2, if_neg (by decide +kernel), if_neg (by decide +kernel), if_neg (by decide +kernel),
    if_neg (by decide +kernel), if_pos (by decide +kernel)]

/-- Tag bytes of FFh are EMPTY, and any others that are not the tag DAMAGED (R142 tests 1 and 2). -/
theorem test_sector_blank (t : Table) : classify t (blank 0xFF) = .empty ∧ classify t (blank 0) = .damaged := by
  constructor
  · unfold classify; dsimp only; rw [if_pos (by decide +kernel)]
  · unfold classify; dsimp only; rw [if_neg (by decide +kernel), if_pos (by decide +kernel)]

/-! ## Witnesses: steps, the queue and resets as a whole -/

theorem witness_StepRunsFrontCommand : ({ live with pending := [.collect, .force] } : State).pending = .collect :: [.force] := rfl

theorem witness_EmptyQueueTicks : live.pending = [] := rfl

theorem witness_CommandsCompleteAndKeepTheQueue :
    (Instr.writePeriod [0xFE]).wellFormed = true ∧ (Instr.writePeriod [0xFF]).wellFormed = false := by decide

theorem witness_AssertedResetHoldsCommandsOff :
    State.reset.inReset = true ∧ resetRow .collect = false ∧ Instr.collect.wellFormed = true := by decide

theorem witness_EveryStepKeepsLinkInvariants :
    let s := { live with link := { live.link with attn := true } }
    s.attnFollows ∧ s.heldBehind ∧ ∃ t, step s = .next t := ⟨rfl, nofun, _, rfl⟩

theorem witness_EveryStepKeepsBuffersInScreen :
    let s := { live with pending := [.verticalBlank] }
    s.buffersInScreen ∧ ∃ t, step s = .next t := ⟨⟨rfl, rfl⟩, _, rfl⟩

theorem witness_EveryStepKeepsSetsDisjoint :
    let s := { live with pending := [.verticalBlank] }
    s.setsDisjoint ∧ ∃ t, step s = .next t := ⟨fun _ _ => nofun, _, rfl⟩

theorem witness_EveryStepKeepsBanksAgree :
    let s := { live with pending := [.verticalBlank] }
    s.banksAgree ∧ s.plannerAgrees ∧ ∃ t, step s = .next t := by
  refine ⟨⟨?_, ?_, ?_, ?_, ?_, ?_⟩, ⟨?_, ?_⟩, _, rfl⟩ <;> (try simp only [Banks.atMostOne]) <;> decide +kernel

/-! ## Witnesses: encodings and events -/

theorem witness_MessagesAndFramesRoundTrip :
    (CaptureMsg.reduceData 0 65535 65535 0).fits ∧ (CaptureMsg.prefilled 255).fits ∧ (CaptureMsg.triggered 0 true).fits
      ∧ (CaptureMsg.complete 255).fits ∧ CaptureMsg.ack.fits ∧ CaptureMsg.hello.fits ∧ (CaptureMsg.fault 7).fits
      ∧ (⟨0x10, List.replicate 1018 0⟩ : Frame).body.length ≤ 1018 := by
  refine ⟨⟨?_, ?_, ?_, ?_⟩, ?_, ?_, ?_, trivial, trivial, trivial, ?_⟩ <;> (try unfold CaptureMsg.fits) <;> decide +kernel

theorem witness_FieldValuesRoundTrip :
    (Value.num (-2 ^ 63)).fits Field.chOffset.sort ∧ (Value.num (2 ^ 63 - 1)).fits Field.chOffset.sort
      ∧ (Value.enum 2).fits Field.chCoupling.sort ∧ (Value.truth true).fits Field.chFine.sort
      ∧ (Value.text (List.replicate 32 'A')).fits Field.chLabel.sort ∧ Value.absent.fits Field.chLabel.sort
      ∧ Value.absent.fits Field.trLevel.sort ∧ (Value.ref levelRef).fits Field.paFocus.sort
      ∧ (Value.edges (List.replicate 12 4)).fits Field.paKnobEdges.sort ∧ (Value.keys [0, 41]).fits Field.paHostKeys.sort
      ∧ (Field.kbArgument.sort = .argument ∧ live.table.argTarget ⟨⟨.keybind, 5⟩, .kbArgument⟩ = some ⟨acquireKey, .acRunState⟩
          ∧ (Value.enum 2).fits Field.acRunState.sort)
      ∧ (Field.lbValue.sort = .argument ∧ live.table.argTarget ⟨⟨.lampbind, 9⟩, .lbValue⟩ = some ⟨panelKey, .paAuthority⟩
          ∧ (Value.num 2).fits Field.paAuthority.sort) := by
  simp [Value.fits, Field.sort, levelRef, triggerKey, Field.cls]
  decide

/-- Drafts that alter the backlight, the channels' scale (a PLAN field) and the trigger's slope (a LIVE field). -/
theorem witness_EventsStampAndMark_altering :
    let t := live.table
    let backlight := (applyRecord t displayKey [(.diBacklight, .num 100)]).1
    let scale := (applyRecord t ⟨.channel, 1⟩ [(.chScale, .num 2000000)]).1
    let slope := (applyRecord t triggerKey [(.trSlope, .enum 1)]).1
    (∀ u ∈ [backlight, scale, slope],
        u.counter = t.counter ∧ u.stamps = t.stamps ∧ u.changeSet = t.changeSet ∧ u.retired = t.retired)
      ∧ (∃ r ∈ alteredRefs t ((Draft.of backlight).planned t), r.key = displayKey)
      ∧ planAltered (alteredRefs t ((Draft.of scale).planned t)) = true
      ∧ (planAltered (alteredRefs t ((Draft.of slope).planned t)) = false
          ∧ liveAltered (alteredRefs t ((Draft.of slope).planned t)) = true) := by decide +kernel

/-- A draft that alters nothing, creates nothing and retires nothing; one that creates CURSOR 1; one that retires it. -/
theorem witness_EventsStampAndMark :
    let t := live.table
    (∀ d ∈ [Draft.of t, { Draft.of t with created := [⟨.cursor, 1⟩] }, { Draft.of t with retired := [⟨.cursor, 1⟩] }],
      d.table.counter = t.counter ∧ d.table.stamps = t.stamps ∧ d.table.changeSet = t.changeSet ∧ d.table.retired = t.retired
        ∧ alteredRefs t (d.planned t) = []) := by
  have h : ∀ c r, alteredRefs live.table { table := live.table, created := c, retired := r } = [] := by
    intro c r; simp [alteredRefs]
  intro t d hd
  simp only [List.mem_cons, List.not_mem_nil, or_false] at hd
  rcases hd with rfl | rfl | rfl <;> refine ⟨rfl, rfl, rfl, rfl, ?_⟩ <;>
    simp [Draft.planned, Draft.of, planAltered, t, h]

/-! ## Witnesses: resets and the link -/

theorem witness_DeviceResetKeepsFaultsAndLatch : live.faults.entries.length = 8 := rfl

theorem witness_ResetEndStartsThePart :
    State.reset.inReset = true ∧ State.reset.composer.state = .idle ∧ State.reset.composer.recompose = true
      ∧ State.reset.run.banks.find .held = none ∧ State.reset.run.banks.find .shown = none := by decide

/-- IDENTIFY's frame and a frame of an unknown kind, each with its CRC from another implementation, a FAULTS frame of sub-action 3,
and a bad start byte. -/
theorem witness_FramesTakenHeldOrDiscarded :
    let held := { live with link := { live.link with held := some [0x5C, 0x01, 0x00, 0x00, 0xFB, 0xAC] } }
    live.inReset = false ∧ live.link.inHand = none ∧ live.link.held = none
      ∧ (held.link.inHand = none ∧ held.link.held = some [0x5C, 0x01, 0x00, 0x00, 0xFB, 0xAC])
      ∧ (checkFrame [0x5C, 0x01, 0x00, 0x00, 0xFB, 0xAC] = .inr ⟨0x01, []⟩ ∧ Req.ofByte 0x01 = some .identify
          ∧ badSubAction .identify [] = false ∧ (Instr.writePeriod [0x5C, 0x01, 0x00, 0x00, 0xFB, 0xAC]).wellFormed = true)
      ∧ (checkFrame [0x5C, 0x7F, 0x00, 0x00, 0x38, 0xA5] = .inr ⟨0x7F, []⟩ ∧ Req.ofByte 0x7F = none)
      ∧ (checkFrame [0x5C, 0x10, 0x00, 0x01, 0x03, 0x9C, 0x35] = .inr ⟨0x10, [3]⟩ ∧ Req.ofByte 0x10 = some .faults
          ∧ badSubAction .faults [3] = true)
      ∧ checkFrame [0x5D] = .inl .badStart ∧ checkFrame [0x5C, 0x01, 0x00, 0x00, 0xFB, 0xAD] = .inl .badCrc
      ∧ (asking 1 [] live).link.inHand = some ⟨1, []⟩ ∧ (asking 1 [] held).link.held ≠ none := by decide +kernel

theorem witness_ReadPeriodSendsTheBuffer : live.inReset = false := rfl

theorem witness_RequestRowsAnswerTheRequestInHand :
    let s := { asking 6 [] live with link := { live.link with inHand := some ⟨6, []⟩, held := some [0x5C, 0x01, 0x00, 0x00, 0xFB, 0xAC] } }
    (∃ row, requestRow .collect = some row ∧ (asking 6 [] live).asks (row.frame []) ∧ s.link.inHand = some (row.frame [])
        ∧ s.link.held = some [0x5C, 0x01, 0x00, 0x00, 0xFB, 0xAC] ∧ ∀ body, live.link.inHand ≠ some (row.frame body))
      ∧ checkFrame [0x5C, 0x01, 0x00, 0x00, 0xFB, 0xAC] = .inr ⟨0x01, []⟩ ∧ Req.ofByte 0x01 = some .identify
      ∧ badSubAction .identify [] = false :=
  ⟨⟨_, rfl, ⟨rfl, by decide, rfl⟩, by decide, rfl, fun _ => nofun⟩, by decide +kernel, by decide, by decide⟩

theorem witness_RefusedRequestsChangeNothing :
    ∃ row, requestRow .faultsRead = some row ∧ (asking 0x10 [0, 9] live).asks (row.frame [9])
      ∧ (row.block [9] (asking 0x10 [0, 9] live).begin).2.code ∈ ReplyCode.refusals :=
  ⟨_, rfl, ⟨rfl, by decide, rfl⟩, by decide⟩

theorem witness_IdentifyAndLookupAnswer :
    (asking 1 [] live).asks ⟨0x01, []⟩ ∧ live.table.has ⟨.lampbind, 23⟩ = true ∧ (23 : Nat) ∈ Cls.lampbind.instances
      ∧ (asking 2 [10, 23, 0] live).asks ⟨0x02, [byte Cls.lampbind.number, byte 23, 0]⟩ :=
  ⟨⟨rfl, rfl, rfl⟩, by decide, by decide, rfl, by decide, rfl⟩

/-- DISPLAY.backlight amended to 101: unconditionally, with the stamp held, and with another stamp. -/
theorem witness_AmendIsOneEventOrStale :
    let body (x : List Byte) : List Byte := [5, 1] ++ x ++ [1, 3] ++ numberBytes 101
    (∃ b k, readAmend live.table (body [0]) = .inr b ∧ checkRecord live.table b.cls b.inst = .inr k ∧ b.stamp = none
        ∧ itemsRefused live.table k b.items b.stop = none)
      ∧ (∃ b k, readAmend live.table (body [1, 0, 0, 0, 0, 0, 1]) = .inr b ∧ checkRecord live.table b.cls b.inst = .inr k
          ∧ b.stamp = some (live.table.stampOf k) ∧ itemsRefused live.table k b.items b.stop = none)
      ∧ (∃ b k x, readAmend live.table (body [1, 0, 0, 0, 0, 0, 2]) = .inr b ∧ checkRecord live.table b.cls b.inst = .inr k
          ∧ b.stamp = some x ∧ x ≠ live.table.stampOf k)
      ∧ (asking 3 (body [0]) live).asks ⟨0x03, body [0]⟩ := by
  refine ⟨⟨_, displayKey, rfl, ?_, ?_, ?_⟩, ⟨_, displayKey, rfl, ?_, ?_, ?_⟩, ⟨_, displayKey, 2, rfl, ?_, ?_, ?_⟩, rfl, rfl, rfl⟩ <;>
    decide +kernel

theorem witness_AmendClampsTheBacklight :
    (live.table.display.backlight : Int) = clampTo 0 100 80 ∧ (live.table.display.backlight : Int) ≠ clampTo 0 100 (2 ^ 63 - 1)
      ∧ (asking 3 ([5, 1, 0, 1, 3] ++ numberBytes 80) live).asks ⟨0x03, [5, 1, 0, 1, 3] ++ numberBytes 80⟩ :=
  ⟨by decide, by decide, rfl, rfl, rfl⟩

/-- The table with CURSOR 1 present. -/
def withCursor : State := { live with table := live.table.addRecord ⟨.cursor, 1⟩ }

theorem witness_CreateMakesTheRecord :
    Cls.cursor.dynamic = true ∧ roomFor live.table .cursor = .inr 1 ∧ live.table.cursors.length = 4
      ∧ live.table.measurements.length = 8 ∧ live.table.annotations.length = 8
      ∧ (asking 4 [11, 0] live).asks ⟨0x04, byte Cls.cursor.number :: (0 : Byte) :: []⟩
      ∧ (let items := readRequestItems live.table .cursor none 0 []
         items.2.readable = true ∧ itemsRefused live.table ⟨.cursor, 1⟩ items.1 items.2 = none)
      ∧ roomFor withCursor.table .cursor = .inr 2
      ∧ (let items := readRequestItems live.table .cursor none 1 [5, 0]
         items.2.readable = true ∧ itemsRefused live.table ⟨.cursor, 1⟩ items.1 items.2 = none) := by
  refine ⟨?_, ?_, ?_, ?_, ?_, ⟨rfl, ?_, rfl⟩, ?_, ?_, ?_⟩ <;> decide +kernel

theorem witness_RetireTakesTheRecordOut :
    let focused := { withCursor with table := { withCursor.table with
                       panel := { withCursor.table.panel with focus := some ⟨⟨.cursor, 1⟩, .cuA⟩ } } }
    Cls.cursor.dynamic = true ∧ (1 : Nat) ∈ Cls.cursor.instances ∧ withCursor.table.has ⟨.cursor, 1⟩ = true
      ∧ (asking 5 [11, 1] withCursor).asks ⟨0x05, keyBytes ⟨.cursor, 1⟩⟩ ∧ withCursor.table.panel.focus = none
      ∧ focused.table.has ⟨.cursor, 1⟩ = true ∧ focused.table.panel.focus = some ⟨⟨.cursor, 1⟩, .cuA⟩ := by
  refine ⟨?_, ?_, ?_, ⟨rfl, ?_, rfl⟩, ?_, ?_, ?_⟩ <;> decide +kernel

theorem witness_CollectEmptiesTheLists : (asking 6 [] live).asks ⟨0x06, []⟩ := ⟨rfl, rfl, rfl⟩

/-- CHANNEL 1 and ACQUIRE carry intents: a refused push, and a refused FORCE. -/
def withIntents : State :=
  { live with table := { live.table with intents :=
      [(⟨.channel, 1⟩, { control := .knob 0, kind := .push, field := .chFine, total := 0, arg := none }),
       (acquireKey, { control := .key 5, kind := .key .force, field := .acRunState, total := 0, arg := none })] } }

/-- INTENTs refused: a class that is not, an instance outside the range, a channel not built, a cursor not present, and a record without
an intent. -/
theorem witness_IntentsAreDroppedOrPerformed_refused :
    let two := { State.reset with inReset := false, table := (State.start 2).table }
    (Cls.ofNumber (14 : Byte).toNat = none ∧ (asking 7 [0, 14, 1] live).asks ⟨0x07, [0, 14, 1]⟩)
      ∧ ((5 : Byte).toNat ∉ Cls.channel.instances ∧ (asking 7 [1, 1, 5] live).asks ⟨0x07, [1, byte Cls.channel.number, 5]⟩)
      ∧ ((4 : Nat) ∈ Cls.channel.instances ∧ two.table.has ⟨.channel, 4⟩ = false
          ∧ (asking 7 [0, 1, 4] two).asks ⟨0x07, 0 :: keyBytes ⟨.channel, 4⟩⟩)
      ∧ ((4 : Nat) ∈ Cls.cursor.instances ∧ live.table.has ⟨.cursor, 4⟩ = false
          ∧ (asking 7 [0, 11, 4] live).asks ⟨0x07, 0 :: keyBytes ⟨.cursor, 4⟩⟩)
      ∧ (findKey ⟨.channel, 1⟩ live.table.intents = none ∧ (asking 7 [1, 1, 1] live).asks ⟨0x07, 1 :: keyBytes ⟨.channel, 1⟩⟩) := by
  refine ⟨⟨?_, rfl, ?_, rfl⟩, ⟨?_, rfl, ?_, rfl⟩, ⟨?_, ?_, rfl, ?_, rfl⟩, ⟨?_, ?_, rfl, ?_, rfl⟩, ⟨?_, rfl, ?_, rfl⟩⟩ <;> decide +kernel

/-- FORCE and DEFAULTS intents, in the states that answer them differently. -/
theorem witness_IntentsAreDroppedOrPerformed_handed_on :
    let defaults : State := { withIntents with table := { withIntents.table with intents :=
      [(acquireKey, { control := .key 7, kind := .key .defaults, field := .acRunState, total := 0, arg := none })] } }
    (findKey acquireKey defaults.table.intents).map (·.kind) = some (.key .defaults) ∧ defaults.table.has acquireKey = true
      ∧ (asking 7 [0, 4, 1] defaults).asks ⟨0x07, 0 :: keyBytes acquireKey⟩
      ∧ defaults.table.system.storeState = .scanning
      ∧ (let s := makerSlot (store .idle defaults); s.table.system.storeState = .idle ∧ s.engine.slotValid 31 = true)
      ∧ (let s := store .absent defaults
         s.table.system.storeState = .absent ∧ alteredRefs s.table (factoryDraft s.table) = [] ∧ s.table.dynamicKeys = [])
      ∧ (acq .stopped withIntents).table.acquire.acqState = .stopped
      ∧ (let s := bank .a .filling true (acq .ready withIntents)
         s.table.acquire.acqState = .ready ∧ s.run.forceOrigin = .none ∧ s.run.banks.find .filling = some .a) := by
  refine ⟨?_, ?_, ⟨rfl, ?_, rfl⟩, ?_, ?_, ?_, ?_, ?_⟩ <;> decide +kernel

theorem witness_IntentsAreDroppedOrPerformed :
    withIntents.table.has ⟨.channel, 1⟩ = true ∧ withIntents.table.has acquireKey = true
      ∧ (findKey ⟨.channel, 1⟩ withIntents.table.intents).map (·.kind) = some .push
      ∧ (findKey acquireKey withIntents.table.intents).map (·.kind) = some (.key .force)
      ∧ (asking 7 [1, 1, 1] withIntents).asks ⟨0x07, 1 :: keyBytes ⟨.channel, 1⟩⟩
      ∧ (asking 7 [0, 1, 1] withIntents).asks ⟨0x07, 0 :: keyBytes ⟨.channel, 1⟩⟩
      ∧ (asking 7 [0, 4, 1] withIntents).asks ⟨0x07, 0 :: keyBytes acquireKey⟩ := by
  refine ⟨?_, ?_, ?_, ?_, ⟨rfl, ?_, rfl⟩, ⟨rfl, ?_, rfl⟩, ⟨rfl, ?_, rfl⟩⟩ <;> decide

theorem witness_DefaultsByEngineState :
    (asking 8 [] live).asks ⟨0x08, []⟩ ∧ live.table.system.storeState = .scanning
      ∧ ((makerSlot (store .storing live)).table.system.storeState = .storing ∧ (makerSlot (store .storing live)).engine.slotValid 31 = true)
      ∧ ((makerSlot (store .idle live)).table.system.storeState = .idle ∧ (makerSlot (store .idle live)).engine.slotValid 31 = true)
      ∧ (store .absent live).table.system.storeState = .absent
      ∧ ((store .idle live).table.system.storeState = .idle ∧ (store .idle live).engine.slotValid 31 = false)
      ∧ (alteredRefs live.table (factoryDraft live.table) = [] ∧ live.table.dynamicKeys = [])
      ∧ withCursor.table.dynamicKeys ≠ []
      ∧ (let t := { live.table with display := { live.table.display with backlight := 5 } }
         alteredRefs t (factoryDraft t) ≠ []) :=
  ⟨⟨rfl, rfl, rfl⟩, by decide, by decide, by decide, by decide, by decide, by decide +kernel, by decide +kernel, by decide +kernel⟩

theorem witness_ForceByRunControllerState :
    (asking 9 [] live).asks ⟨0x09, []⟩ ∧ (acq .stopped live).table.acquire.acqState = .stopped
      ∧ (acq .triggered live).table.acquire.acqState = .triggered ∧ (acq .waitBank live).table.acquire.acqState = .waitBank
      ∧ (let s := bank .a .filling true (acq .ready live)
         s.table.acquire.acqState = .ready ∧ s.run.forceOrigin = .none ∧ s.run.banks.find .filling = some .a)
      ∧ (let s := { acq .ready live with run := { live.run with forceOrigin := .auto } }
         s.table.acquire.acqState = .ready ∧ s.run.forceOrigin ≠ .none)
      ∧ (live.port.waiting = none ∧ live.run.queue = [] ∧ live.table.acquire.acqState ≠ .ready
          ∧ live.table.system.captureOnline = false) :=
  ⟨⟨rfl, rfl, rfl⟩, by decide, by decide, by decide, by decide, by decide, by decide⟩

/-! ## Witnesses: storage requests and faults -/

theorem witness_StorageOperationsStart :
    let s := makerSlot (store .idle live)
    s.table.system.storeState = .idle ∧ (31 : Nat) ≤ 31 ∧ chosenCategories 0x3F = some .all
      ∧ (List.replicate 32 'A').length ≤ 32 ∧ (List.replicate 32 'A').all printable = true ∧ ¬ (31 = 31 ∧ s.engine.protect = true)
      ∧ s.engine.slotValid 31 = true
      ∧ (asking 0x0A (byte 31 :: (optTextBytes (some (List.replicate 32 'A')) ++ [0x3F])) s).asks
          ⟨0x0A, byte 31 :: (optTextBytes (some (List.replicate 32 'A')) ++ [0x3F])⟩
      ∧ (asking 0x0A (byte 0 :: (optTextBytes none ++ [0x3F])) s).asks ⟨0x0A, byte 0 :: (optTextBytes none ++ [0x3F])⟩
      ∧ (asking 0x0B [byte 31, 0x3F] s).asks ⟨0x0B, [byte 31, 0x3F]⟩ ∧ (asking 0x0C [byte 0] s).asks ⟨0x0C, [byte 0]⟩ := by
  refine ⟨?_, ?_, ?_, ?_, ?_, ?_, ?_, ⟨rfl, rfl, rfl⟩, ⟨rfl, rfl, rfl⟩, ⟨rfl, rfl, rfl⟩, ⟨rfl, rfl, rfl⟩⟩ <;> decide

theorem witness_EraseRefusedInOrder :
    (asking 0x0C [32] (store .idle live)).asks ⟨0x0C, [32]⟩ ∧ (store .idle live).table.system.storeState = .idle
      ∧ 31 < (32 : Byte).toNat := ⟨⟨rfl, rfl, rfl⟩, rfl, by decide⟩

/-- A state and a request for each check of R146 that fails, the ones before it passing. -/
theorem witness_EraseRefusedInOrder_each_check :
    let idle := store .idle live
    let latched := { idle with engine := { idle.engine with protect := true } }
    let slot0 (e : SlotEntry) : State := { idle with engine := { idle.engine with directory := [e] } }
    let body (n : Byte) (chars : List Byte) (cats : Byte) : List Byte := 0 :: n :: (chars ++ [cats])
    ((asking 0x0B [0, 1] (store .absent live)).asks ⟨0x0B, [0, 1]⟩ ∧ (store .absent live).table.system.storeState = .absent)
      ∧ live.table.system.storeState = .scanning
      ∧ ((asking 0x0B [32, 1] idle).asks ⟨0x0B, [32, 1]⟩ ∧ idle.table.system.storeState = .idle)
      ∧ ((asking 0x0A (body 1 [0x1F] 1) idle).asks ⟨0x0A, body 1 [0x1F] 1⟩ ∧ (1 : Byte) ≠ 0xFF ∧ [(0x1F : Byte)].length = (1 : Byte).toNat
          ∧ ¬ 0x20 ≤ (0x1F : Byte).toNat)
      ∧ ((List.replicate 33 (0x41 : Byte)).length = (33 : Byte).toNat ∧ 32 < (List.replicate 33 (0x41 : Byte)).length)
      ∧ ((asking 0x0A (body 0xFF [] 0x40) idle).asks ⟨0x0A, body 0xFF [] 0x40⟩ ∧ (0x40 : Byte).getLsbD 6 = true
          ∧ (0x80 : Byte).getLsbD 7 = true ∧ (0 : Byte) = 0)
      ∧ (store .erasing live).table.system.storeState = .erasing
      ∧ ((asking 0x0C [31] latched).asks ⟨0x0C, [31]⟩ ∧ latched.engine.protect = true ∧ (31 : Byte).toNat = 31)
      ∧ idle.engine.directory.getD 0 .empty = .empty ∧ (slot0 .damaged).engine.directory.getD 0 .empty = .damaged
      ∧ (slot0 .foreign).engine.directory.getD 0 .empty = .foreign := by
  refine ⟨⟨⟨rfl, rfl, rfl⟩, ?_⟩, ?_, ⟨⟨rfl, rfl, rfl⟩, ?_⟩, ⟨⟨rfl, rfl, rfl⟩, ?_, ?_, ?_⟩, ?_, ⟨⟨rfl, rfl, rfl⟩, ?_, ?_, ?_⟩, ?_,
    ⟨⟨rfl, rfl, rfl⟩, ?_, ?_⟩, ?_, ?_, ?_⟩ <;> decide +kernel

/-- A STORE into the maker's slot while the latch is set, after its label and categories pass, is refused PROTECTED (R146). -/
theorem test_store_refused_protected :
    let s := { store .idle live with engine := { live.engine with protect := true } }
    (storeRequest [31, 1, 0x41, 1] s).2 = bare .protectedSlot ∧ (storeRequest [31, 1, 0x1F, 1] s).2 = bare .badValue
      ∧ (recallRequest [0, 1] s).2 = bare .empty := by decide +kernel

theorem witness_StorageReportsAndLatch :
    (∃ row, requestRow .directory = some row ∧ (asking 0x0D [] (store .absent live)).asks (row.frame []))
      ∧ (store .absent live).table.system.storeState = .absent ∧ live.table.system.storeState = .scanning
      ∧ (store .storing live).table.system.storeState ≠ .absent ∧ (store .storing live).table.system.storeState ≠ .scanning
      ∧ (asking 0x0D [] (store .storing live)).asks ⟨0x0D, []⟩ ∧ (asking 0x0E [] (store .storing live)).asks ⟨0x0E, []⟩
      ∧ (asking 0x0F [] (store .storing live)).asks ⟨0x0F, []⟩
      ∧ (working .store 30 (some .erase) none (store .storing live)).engine.op = some { op := .store, slot := 30, mask := .all }
      ∧ (working .erase 31 none none (store .erasing live)).engine.op = some { op := .erase, slot := 31, mask := .all } :=
  ⟨⟨_, rfl, rfl, by decide, rfl⟩, by decide, by decide, by decide, by decide, ⟨rfl, rfl, rfl⟩, ⟨rfl, rfl, rfl⟩, ⟨rfl, rfl, rfl⟩, rfl, rfl⟩

theorem witness_FaultsReadChangesNothing :
    (asking 0x10 [0] live).asks ⟨0x10, [0]⟩ ∧ ({ asking 0x10 [0] live with link := { (asking 0x10 [0] live).link with attn := true } }).attnFollows :=
  ⟨⟨rfl, rfl, rfl⟩, rfl⟩

/-- LINK_FRAME has its status set. -/
def faulty : State := live.report .linkFrame (some (.frame .badCrc))

theorem witness_FaultsClearNamedClasses :
    (asking 0x10 [1, 0x01] faulty).asks ⟨0x10, [1, 0x01]⟩ ∧ (asking 0x10 [1, 0xFE] faulty).asks ⟨0x10, [1, 0xFE]⟩
      ∧ (∃ e, faulty.faults.entries[0]? = some e ∧ e.status = true ∧ (0x01 : Byte).getLsbD 0 = true) ∧ (0xFE : Byte).getLsbD 0 = false
      ∧ (∀ k : Fin 8, ∀ e, live.faults.entries[k.val]? = some e → e.status = false) := by
  refine ⟨⟨rfl, rfl, rfl⟩, ⟨rfl, rfl, rfl⟩, ⟨_, rfl, by decide, by decide⟩, by decide, ?_⟩
  decide

theorem witness_FaultsSetupNamedClasses :
    (asking 0x10 [2, 0xFF, 1, 0xFF] live).asks ⟨0x10, [2, 0xFF, 1, 0xFF]⟩ ∧ (asking 0x10 [2, 0, 2, 0] live).asks ⟨0x10, [2, 0, 2, 0]⟩
      ∧ ((1 : Byte) = 0 ∨ (1 : Byte) = 1 ∨ (1 : Byte) = 0xFF) ∧ ¬ ((2 : Byte) = 0 ∨ (2 : Byte) = 1 ∨ (2 : Byte) = 0xFF) :=
  ⟨⟨rfl, rfl, rfl⟩, ⟨rfl, rfl, rfl⟩, by decide, by decide⟩

theorem witness_CaptureTroubleIsReported :
    live.inReset = false ∧ (acq .stopped live).table.system.captureOnline = true ∧ live.table.system.captureOnline = false
      ∧ live.faults.stops .captureReported ∧ live.port.lateAt = none
      ∧ ({ live with port := { live.port with lateAt := some 500000, queryAt := some 500000 } }).port.lateAt = some 500000
      ∧ ({ live with port := { live.port with lateAt := some 500000, queryAt := some 500000 } }).port.queryAt = some 500000 :=
  ⟨rfl, rfl, rfl, ⟨_, rfl, rfl⟩, rfl, rfl, rfl⟩

/-- A queue of the Run Controller. -/
def queueIs (q : List RcRequest) (s : State) : State := { s with run := { s.run with queue := q } }

/-- The ARM of a bank by the Planner's sets. -/
def armOf (x : Bank) : RcRequest := .arm x live.planner.plan live.planner.front live.planner.trig

/-- The handovers: each state of the Run Controller, an abandon with the ARM queued and with the ARM sent, and an UPDATE that waits. -/
theorem witness_OwnerEventsStopAcquisition_handovers :
    let halt (s : State) : State := { s with table := { s.table with acquire := { s.table.acquire with runState := .stop } } }
    let fillA (a : AcqState) := bank .a .filling false (acq a live)
    let queued := queueIs [armOf .a] (fillA .arming)
    let sent := queueIs [.update .a live.planner.trig] (fillA .triggered)
    let ready := bank .a .filling true (acq .ready live)
    (live.table.acquire.acqState = .offline ∧ (acq .stopped (halt live)).table.acquire.runState = .stop)
      ∧ ((acq .waitBank live).table.acquire.acqState = .waitBank ∧ (acq .waitBank live).table.acquire.runState ≠ .stop)
      ∧ (acq .stopped live).run.banks.find .free = some .a
      ∧ (queued.table.acquire.acqState.inFlight = true ∧ queued.run.banks.find .filling = some .a ∧ armOf .a ∈ queued.run.queue)
      ∧ (sent.table.acquire.acqState.inFlight = true ∧ sent.run.banks.find .filling = some .a
          ∧ sent.run.queue = [] ++ .update .a live.planner.trig :: [])
      ∧ (ready.table.acquire.acqState = .ready ∧ ready.run.queue = [] ∧ ready.planner.trig.mode = .auto)
      ∧ ({ ready with planner := { ready.planner with trig := { ready.planner.trig with mode := .normal } } }).planner.trig.mode = .normal
      ∧ AcqState.stopped.inFlight = false := by decide +kernel

theorem witness_OwnerEventsStopAcquisition :
    let s := { live with inbox := { live.inbox with ownerFault := 1, ownerRun := 1 } }
    let set (r : RunState) (s : State) : State := { s with table := { s.table with acquire := { s.table.acquire with runState := r } } }
    s.inReset = false ∧ s.inbox.ownerFault = 0 + 1 ∧ s.inbox.ownerRun = 0 + 1 ∧ s.table.acquire.runState ≠ .stop
      ∧ (set .stop s).table.acquire.runState = .stop ∧ (set .single s).table.acquire.runState = .single
      ∧ s.table.acquire.runState ≠ .single := by decide +kernel

/-! ## Witnesses: the front panel and the lamps -/

/-- One key's entry. -/
def keyIs (k : Fin 40) (e : KeyEntry) (s : State) : State :=
  { s with scanner := { s.scanner with keys := s.scanner.keys.set k.val e } }

theorem witness_KeyScanDebounces :
    let released := keyIs 39 ⟨.released, 7, none⟩ live
    let blocked := keyIs 0 ⟨.blocked, 7, none⟩ live
    live.inReset = false ∧ released.scanner.keys[39]? = some ⟨.released, 7, none⟩ ∧ blocked.scanner.keys[0]? = some ⟨.blocked, 7, none⟩
      ∧ 3 ≤ bitCount (7 : BitVec 40) ∧ bitCount (3 : BitVec 40) < 3
      ∧ (3 : BitVec 40).getLsbD 0 = (KeyState.blocked != .released)
      ∧ (3 : BitVec 40).getLsbD 2 ≠ (KeyState.blocked != .released)
      ∧ 6 + 1 < live.table.panel.debounceMs ∧ live.table.panel.debounceMs ≤ 7 + 1
      ∧ (0 : BitVec 40).getLsbD 0 = false ∧ (1 <<< 39 : BitVec 40).getLsbD 39 = true ∧ bitCount (1 <<< 39 : BitVec 40) < 3
      ∧ ∃ b a, live.table.keybinds[5]? = some b ∧ pressAction live.table 5 b = some a := by
  refine ⟨rfl, rfl, rfl, ?_, ?_, ?_, ?_, ?_, ?_, ?_, ?_, ?_, ⟨_, _, rfl, rfl⟩⟩ <;> decide +kernel

/-- The push switch of K12 settles down, that of K3 is not read in a 2-channel build, and that of K11 is inert with the source LINE; a step
key settles down with its repeat target, and a key bound to HOST with none. -/
theorem witness_KeyScanDebounces_pushes :
    let push (s : State) (k : Nat) (e : KeyEntry) : State := { s with scanner := { s.scanner with pushes := s.scanner.pushes.set k e } }
    let two := { State.reset with inReset := false, table := (State.start 2).table }
    let line := { live with table := { live.table with trigger := { live.table.trigger with source := .line } } }
    let step : Keybind := { action := .stepUp, target := some ⟨⟨.channel, 1⟩, .chOffset⟩, argument := none }
    (push live 11 ⟨.released, 7, none⟩).scanner.pushes[11]? = some ⟨.released, 7, none⟩
      ∧ (push live 0 ⟨.blocked, 7, none⟩).scanner.pushes[0]? = some ⟨.blocked, 7, none⟩
      ∧ knobRead live.table 11 = true ∧ knobRead live.table 0 = true ∧ knobRead two.table 2 = false
      ∧ (1 <<< 11 : BitVec 12).getLsbD 11 = true ∧ (KeyState.released != .released) = false ∧ (KeyState.blocked != .released) = true
      ∧ (0 : BitVec 12).getLsbD 0 = false
      ∧ live.table.panel.debounceMs ≤ 7 + 1 ∧ 6 + 1 < live.table.panel.debounceMs
      ∧ (line.table.trigger.source = .line ∧ live.table.trigger.source ≠ .line)
      ∧ (pressAction live.table 0 step).isSome = true ∧ step.action = .stepUp
      ∧ (∃ b, live.table.keybinds[39]? = some b ∧ b.action = .host) := by
  refine ⟨?_, ?_, ?_, ?_, ?_, ?_, ?_, ?_, ?_, ?_, ?_, ?_, ?_, ?_, ⟨_, rfl, ?_⟩⟩ <;> decide +kernel

/-- A key that settles down submits its action once though an equal one waits, and one held down PRESSED submits none (R45, R48). -/
theorem test_scan_submits_once :
    let cycle : PanelAction := .press 9 .cycle ⟨triggerKey, .trSlope⟩ none
    let at9 (k : KeyState) (n : Nat) : State :=
      let s := { live with inbox := { live.inbox with actions := [cycle] } }
      { s with scanner := { s.scanner with keys := (s.scanner.keys.map fun e => { e with state := .released }).set 9 ⟨k, n, none⟩ } }
    ((at9 .released 7).scanPanel (1 <<< 9) 0).inbox.actions = [cycle, cycle]
      ∧ ((at9 .pressed 7).scanPanel (1 <<< 9) 0).inbox.actions = [cycle]
      ∧ ((at9 .released 6).scanPanel (1 <<< 9) 0).inbox.actions = [cycle] := by decide +kernel

/-- CHANNEL 1's offset, whose guard is 1. -/
def offset1 : Ref := ⟨⟨.channel, 1⟩, .chOffset⟩

theorem witness_AdmittedPanelActionsAreEvents :
    let other : PanelAction := .detent 1 offset1 .cw 1
    live.inReset = false ∧ live.table.has offset1.key = true ∧ admitted live.table offset1 = true
      ∧ (inboxWith [other, .press 5 .cycle offset1 none] live).inbox.actions = [other] ++ .press 5 .cycle offset1 none :: []
      ∧ [other].all (fun p => !p.isPress 5) = true ∧ KeyAction.cycle ≠ .force ∧ KeyAction.cycle ≠ .defaults
      ∧ (inboxWith [other, .detent 4 offset1 .ccw 20] live).inbox.actions = [other] ++ .detent 4 offset1 .ccw 20 :: []
      ∧ [other].all (fun p => !p.isDetent 4) = true
      ∧ (inboxWith [other, .push 4 offset1] live).inbox.actions = [other] ++ .push 4 offset1 :: []
      ∧ [other].all (fun p => !p.isPush 4) = true := by decide +kernel

/-- FORCE and DEFAULTS pressed: admitted, answered NOT_ARMED and BUSY, and answered otherwise. -/
theorem witness_AdmittedPanelActionsAreEvents_handed_on :
    let r : Ref := ⟨acquireKey, .acRunState⟩
    live.table.has r.key = true ∧ admitted live.table r = true
      ∧ (inboxWith [.press 6 .force r none] live).inbox.actions = [] ++ .press 6 .force r none :: []
      ∧ (inboxWith [.press 7 .defaults r none] live).inbox.actions = [] ++ .press 7 .defaults r none :: []
      ∧ live.table.acquire.acqState = .offline ∧ (acq .triggered live).table.acquire.acqState = .triggered
      ∧ live.table.system.storeState = .scanning
      ∧ (store .absent live).table.system.storeState = .absent
      ∧ (alteredRefs live.table (factoryDraft live.table) = [] ∧ live.table.dynamicKeys = [])
      ∧ (∃ l, live.lamps.entries[homeLamp (.key 7)]? = some l) := by
  refine ⟨?_, ?_, ?_, ?_, ?_, ?_, ?_, ?_, ?_, ⟨_, rfl⟩⟩ <;> decide +kernel

/-- A DEFAULTS press answered STARTED, and one answered DONE while a lamp runs an error blink. -/
theorem witness_AdmittedPanelActionsAreEvents_no_blink :
    let blinking : Lamp := { state := .blinking (.cycles 2), bound := .off, opens := 0, lit := true, phaseEnd := some 75000 }
    let recalled := makerSlot (store .idle live)
    (recalled.takeDefaults).2 = .started ∧ ((store .absent withCursor).takeDefaults).2 = .done
      ∧ ({ live with lamps := { live.lamps with entries := live.lamps.entries.set 9 blinking } }).lamps.entries[9]? = some blinking := by
  refine ⟨?_, ?_, ?_⟩ <;> decide +kernel

theorem witness_DetentMovesTheOffset :
    (∃ c, live.table.channels[1 - 1]? = some c ∧ c.guard ≤ live.table.panel.authority)
      ∧ (∃ c, live.table.channels[4 - 1]? = some c ∧ c.guard ≤ live.table.panel.authority)
      ∧ (inboxWith [.detent 4 offset1 .cw 20] live).inbox.actions = .detent 4 ⟨⟨.channel, 1⟩, .chOffset⟩ .cw 20 :: [] :=
  ⟨⟨_, rfl, by decide⟩, ⟨_, rfl, by decide⟩, rfl⟩

/-- CHANNEL 1 carries an intent of knob 4's detents. -/
def offsetAsked : State :=
  { authority 0 live with table := { (authority 0 live).table with intents :=
      [(⟨.channel, 1⟩, { control := .knob 4, kind := .detent, field := .chOffset, total := 127, arg := none })] } }

theorem witness_RefusedPanelActionsBecomeIntents :
    (authority 0 live).table.has offset1.key = true ∧ admitted (authority 0 live).table offset1 = false
      ∧ (inboxWith [.press 5 .cycle offset1 none] (authority 0 live)).inbox.actions = [] ++ .press 5 .cycle offset1 none :: []
      ∧ (inboxWith [.detent 4 offset1 .ccw 1] (authority 0 live)).inbox.actions = [] ++ .detent 4 offset1 .ccw 1 :: []
      ∧ (inboxWith [.push 4 offset1] (authority 0 live)).inbox.actions = [] ++ .push 4 offset1 :: []
      ∧ admitted offsetAsked.table offset1 = false ∧ (findKey offset1.key offsetAsked.table.intents).map (·.total) = some 127
      ∧ findKey offset1.key (authority 0 live).table.intents = none ∧ (∃ l, live.lamps.entries[homeLamp (.knob 4)]? = some l) := by
  refine ⟨?_, ?_, ?_, ?_, ?_, ?_, ?_, ?_, ⟨_, rfl⟩⟩ <;> decide +kernel

/-- The focus of the panel. -/
def focusIs (r : Option Ref) (s : State) : State :=
  { s with table := { s.table with panel := { s.table.panel with focus := r } } }

/-- Detents of K11 with the focus moved since and with none, and a SET_VALUE press of a key as it is bound and of one bound anew. -/
theorem witness_RefusedPanelActionsBecomeIntents_moments :
    let s := authority 0 live
    let r : Ref := ⟨acquireKey, .acRunState⟩
    let level := inboxWith [.detent 11 offset1 .cw 1] (focusIs (some levelRef) s)
    let none' := inboxWith [.detent 11 offset1 .ccw 5] (focusIs none s)
    let press := inboxWith [.press 5 .setValue r (some (.enum 0))] s
    let anew := inboxWith [.press 6 .setValue r (some (.enum 0))] s
    (level.inbox.actions = [] ++ .detent 11 offset1 .cw 1 :: [] ∧ level.table.panel.focus = some levelRef
        ∧ level.table.has offset1.key = true ∧ admitted level.table offset1 = false)
      ∧ (none'.inbox.actions = [] ++ .detent 11 offset1 .ccw 5 :: [] ∧ none'.table.panel.focus = none
          ∧ none'.table.has offset1.key = true ∧ admitted none'.table offset1 = false)
      ∧ (press.inbox.actions = [] ++ .press 5 .setValue r (some (.enum 0)) :: [] ∧ admitted press.table r = false
          ∧ press.table.keybinds[5]? = some { action := .setValue, target := some r, argument := some (.enum 2) })
      ∧ (anew.inbox.actions = [] ++ .press 6 .setValue r (some (.enum 0)) :: [] ∧ admitted anew.table r = false
          ∧ ∀ b ∈ anew.table.keybinds[6]?, b.action ≠ .setValue) := by decide +kernel

/-- A K11 detent on CHANNEL 1's offset refused after the focus has moved to the trigger level leaves TRIGGER the intent (R16, log 45). -/
theorem test_refused_k11_detent_names_the_focus :
    ∃ t, exec (.detent 11) (inboxWith [.detent 11 offset1 .cw 1] (focusIs (some levelRef) (authority 0 live))) = .next t
      ∧ t.table.intents.map (fun p => (p.1, p.2.field)) = [(triggerKey, .trLevel)] := ⟨_, rfl, by decide +kernel⟩

/-- Key 1 is bound to step a field up and is held down with its repeat time set. -/
def stepping (r : Ref) (s : State) : State :=
  let s := keyIs 1 ⟨.pressed, 0, some 500000⟩ s
  { s with table := { s.table with keybinds := s.table.keybinds.set 1 { action := .stepUp, target := some r, argument := none } } }

theorem witness_RepeatTargetStepsAgain :
    let s := stepping offset1 live
    let b : Keybind := { action := .stepUp, target := some offset1, argument := none }
    let line := { stepping levelRef live with table := { (stepping levelRef live).table with
                    trigger := { live.table.trigger with source := .line, level := none } } }
    s.inReset = false ∧ s.scanner.keys[1]? = some ⟨.pressed, 0, some 500000⟩ ∧ s.table.keybinds[1]? = some b
      ∧ ({ s with scanner := { s.scanner with ghost := true } }).scanner.ghost = true ∧ s.scanner.ghost = false
      ∧ (targetAbsent line.table { b with target := some levelRef } = false ∧ stepsLineLevel line.table { b with target := some levelRef } = true)
      ∧ targetAbsent live.table { b with target := some ⟨⟨.cursor, 4⟩, .cuA⟩ } = true
      ∧ targetAbsent s.table b = false ∧ stepsLineLevel s.table b = false ∧ admitted s.table offset1 = true
      ∧ s.inbox.actions.all (fun p => !p.isPress 1) = true
      ∧ (authority 0 s).table.has offset1.key = true ∧ admitted (authority 0 s).table offset1 = false := by decide +kernel

/-- A knob's entry with reference levels (0,0). -/
def knobAt0 (q : Int) : KnobEntry := { levels := some (false, false), quarter := q, lastDir := none, recent := [] }

theorem witness_KnobSampleCountsQuarters :
    let s := { live with scanner := { live.scanner with knobs := live.scanner.knobs.set 0 (knobAt0 3) } }
    live.inReset = false ∧ (∃ e, live.scanner.knobs[11]? = some e ∧ e.levels = none) ∧ knobRead live.table 11 = true
      ∧ s.scanner.knobs[0]? = some (knobAt0 3) ∧ knobRead s.table 0 = true ∧ s.table.panel.knobEdges.getD 0 4 = 4
      ∧ ((4 : Nat) : Int) ≤ (knobAt0 3).quarter + 1 ∧ (knobAt0 2).quarter + 1 < ((4 : Nat) : Int)
      ∧ -((4 : Nat) : Int) < (knobAt0 (-2)).quarter - 1 ∧ (knobAt0 (-3)).quarter - 1 ≤ -((4 : Nat) : Int)
      ∧ ((1 : BitVec 12).getLsbD 0, (0 : BitVec 12).getLsbD 0) = (true, false) := by
  refine ⟨rfl, ⟨_, rfl, rfl⟩, ?_, ?_, ?_, ?_, ?_, ?_, ?_, ?_, ?_⟩ <;> decide +kernel

/-- Detents completed: handed on, after a change of direction, discarded for want of a focus and for the level with the source LINE, and by
an edge of the other sign with fewer edges per detent. -/
theorem witness_KnobSampleCountsQuarters_detents :
    let line := { live with table := { live.table with trigger := { live.table.trigger with source := .line } } }
    let edges := { live with table := { live.table with panel := { live.table.panel with knobEdges := List.replicate 12 1 } } }
    knobRef live.table 0 = some ⟨⟨.channel, 1⟩, .chScale⟩ ∧ knobRef live.table 0 ≠ some levelRef
      ∧ knobRef live.table 11 = none
      ∧ (line.table.trigger.source = .line ∧ knobRef line.table 10 = some levelRef)
      ∧ edges.table.panel.knobEdges.getD 0 4 = 1 ∧ ((1 : Nat) : Int) ≤ (knobAt0 3).quarter - 1
      ∧ (((false, false), (true, false)) ∈ [((false, false), (true, false)), ((true, false), (true, true)),
          ((true, true), (false, true)), ((false, true), (false, false))])
      ∧ ({ knobAt0 3 with lastDir := some .ccw, recent := [0] }).lastDir ≠ some .cw
      ∧ (live.table.panel.accel = true ∧ (List.replicate 20 (0 : Time)).length = 20) := by decide +kernel

/-- One lamp's entry. -/
def lampIs (k : Nat) (l : Lamp) (s : State) : State :=
  { s with lamps := { s.lamps with entries := s.lamps.entries.set k l } }

theorem witness_LampPeriodSensesOpenLamps :
    let lit : Lamp := { state := .on, bound := .on, opens := 3, lit := false, phaseEnd := none }
    let b : Lampbind := { target := none, value := none, mode := .onEqual, diag := true }
    live.inReset = false ∧ (lampIs 23 lit live).lamps.entries[23]? = some lit ∧ lit.driven live.lamps.flashLit = true
      ∧ 16 ≤ 16 * live.table.display.lampCoarse + live.table.display.lampFine
      ∧ (∃ c, live.table.lampbinds[23]? = some c) ∧ (∃ c, live.table.lampbinds[0]? = some c)
      ∧ (live.table.lampbinds.set 23 b)[23]? = some b ∧ (live.table.lampbinds.set 0 { b with diag := false })[0]? = some { b with diag := false }
      ∧ ({ lit with state := .off }).driven true = false ∧ ({ lit with opens := 2 }).opens < 3 ∧ 3 ≤ lit.opens
      ∧ (1 <<< 23 : BitVec 24).getLsbD 23 = true ∧ (1 <<< 23 : BitVec 24).getLsbD 0 = false := by
  refine ⟨rfl, rfl, ?_, ?_, ⟨_, rfl⟩, ⟨_, rfl⟩, rfl, rfl, ?_, ?_, ?_, ?_, ?_⟩ <;> decide +kernel

/-- Lamps without a target, with one not there, and with each mode; a draft that binds lamp 16 anew, one that alters a field lamp 16 is
bound to, and the lamps each leaves alone; a status update of the field lamp 7 is bound to. -/
theorem witness_LampPeriodSensesOpenLamps_evaluation :
    let bind (m : LampMode) (r : Option Ref) : Lampbind := { target := r, value := some (.num 0), mode := m, diag := true }
    let high : Ref := ⟨menuKey, .meHighlight⟩
    let rebind := (applyRecord live.table ⟨.lampbind, 16⟩ [(.lbDiag, .truth false)]).1
    let alter := (applyRecord live.table menuKey [(.meHighlight, .num 1)]).1
    let reb := alteredRefs live.table ((Draft.of rebind).planned live.table)
    let alt := alteredRefs live.table ((Draft.of alter).planned live.table)
    let failed : Lamp := { state := .failed, bound := .off, opens := 4, lit := false, phaseEnd := none }
    let fired (t : Table) : Table := { t with acquire := { t.acquire with trigStatus := .triggered } }
    ((bind .onEqual none).target = none ∧ live.table.has ⟨.cursor, 4⟩ = false)
      ∧ live.table.get high = some (.num 0)
      ∧ (planAltered reb = false ∧ liveAltered reb = false ∧ (∃ r ∈ reb, r.key = ⟨.lampbind, 16⟩) ∧ ∀ r ∈ reb, r.key ≠ ⟨.lampbind, 0⟩)
      ∧ (planAltered alt = false ∧ liveAltered alt = false ∧ high ∈ alt ∧ ∀ r ∈ alt, r.key.cls ≠ .lampbind)
      ∧ (∃ b, (eventTable .link (Draft.of alter) live.table).lampbinds[16]? = some b ∧ b.target = some high)
      ∧ (lampIs 16 failed live).lamps.entries[16]? = some failed
      ∧ (fired live.table).get ⟨acquireKey, .acTrigStatus⟩ ≠ live.table.get ⟨acquireKey, .acTrigStatus⟩
      ∧ (∃ b, (fired live.table).lampbinds[7]? = some b ∧ b.target = some ⟨acquireKey, .acTrigStatus⟩) := by
  refine ⟨?_, ?_, ?_, ?_, ⟨_, rfl, ?_⟩, ?_, ?_, ⟨_, rfl, ?_⟩⟩ <;> decide +kernel

/-- Events that alter a PLAN field: run_state SINGLE with the capture controller ONLINE and STOPPED arms, so that the lamp of trig_status is
evaluated by the status update that follows and the lamp of run_state by the event; that lamp's own binding is not altered. -/
theorem witness_LampPeriodSensesOpenLamps_plan_events :
    let fired := { acq .stopped live with table := { (acq .stopped live).table with
                     acquire := { (acq .stopped live).table.acquire with runState := .stop, trigStatus := .triggered } } }
    let d := runStateDraft fired.table .single
    let t := fired.commit .link d
    let altered := alteredRefs fired.table (d.planned fired.table)
    planAltered altered = true ∧ ⟨acquireKey, .acRunState⟩ ∈ altered
      ∧ t.table.get ⟨acquireKey, .acTrigStatus⟩ ≠ (eventTable .link d fired.table).get ⟨acquireKey, .acTrigStatus⟩
      ∧ (∃ b, (eventTable .link d fired.table).lampbinds[7]? = some b ∧ b.target = some ⟨acquireKey, .acTrigStatus⟩)
      ∧ (∃ b, (eventTable .link d fired.table).lampbinds[6]? = some b ∧ b.target = some ⟨acquireKey, .acRunState⟩) := by
  refine ⟨?_, ?_, ?_, ⟨_, rfl, ?_⟩, ⟨_, rfl, ?_⟩⟩ <;> decide +kernel

/-- A FAILED lamp whose binding an event alters recovers to its evaluation, its open count 0 (R60, R64). -/
theorem test_failed_lamp_recovers :
    let failed : Lamp := { state := .failed, bound := .off, opens := 4, lit := false, phaseEnd := none }
    let s := (lampIs 16 failed live).commit .link (Draft.of (applyRecord live.table ⟨.lampbind, 16⟩ [(.lbValue, .present (.num 0))]).1)
    (s.lamps.entries[16]?.map fun l => (l.state, l.opens)) = some (.on, 0) := by decide +kernel

theorem witness_ErrorBlinkRunsItsCycles :
    let dark (n : Nat) : Lamp := { state := .blinking (.cycles n), bound := .flash, opens := 0, lit := false, phaseEnd := some 75000 }
    live.inReset = false ∧ (lampIs 23 (dark 1) live).lamps.entries[23]? = some (dark 1)
      ∧ (lampIs 0 (dark 2) live).lamps.entries[0]? = some (dark 2)
      ∧ (lampIs 0 { dark 3 with lit := true } live).lamps.entries[0]? = some { dark 3 with lit := true } := by decide +kernel

theorem witness_FlashClockAndBacklightPeriods : live.inReset = false := rfl

/-! ## Witnesses: the Capture Port, the Run Controller and the Composer -/

theorem witness_AckTakenAgainstTheOutstandingRequest :
    let arm : RcRequest := .arm .a live.planner.plan live.planner.front live.planner.trig
    let closing := bank .a .closing false (waitingOn (.run (.abandon .a)) (acq .stopped live))
    let waits := bank .b .shown false (bank .a .closing false (waitingOn (.run (.abandon .a)) (acq .waitBank live)))
    live.inReset = false ∧ (waitingOn (.run arm) live).port.outstanding = some (.run arm, 2000)
      ∧ (closing.port.outstanding = some (.run (.abandon .a), 2000) ∧ (closing.run.banks.get .a).state = .closing
          ∧ closing.table.acquire.acqState ≠ .waitBank)
      ∧ (waits.port.outstanding = some (.run (.abandon .a), 2000) ∧ (waits.run.banks.get .a).state = .closing
          ∧ waits.table.acquire.acqState = .waitBank ∧ (waits.run.banks.get (Bank.a).other).state ≠ .free)
      ∧ (waitingOn (.run (.force .b)) live).port.outstanding = some (.run (.force .b), 2000)
      ∧ live.port.outstanding = none := by decide +kernel

/-- The Composer waits for CHANNEL 1's column 0 of the SHOWN bank A. -/
def reducing : State :=
  let d : Descriptor :=
    { interval := 1000, length := 10000, pre := 5000, delay := 0, mode := .sample, chans := [⟨.ch1, 1000000, 0⟩] }
  let s := waitingOn (.reduce { bank := .a, chan := .ch1, first := 0, last := 9 }) (acq .stopped live)
  { s with composer := { s.composer with
      state := .composing
      snapshot := some { snapshotOf s.table s.run.banks with shown := some (.a, d) }
      trace := { todo := [.ch1], col := 0, carry := none, asked := some 0 } } }

theorem witness_ReduceDataIsDrawn :
    live.port.outstanding = none
      ∧ ∃ q due v x d ch cd, reducing.inReset = false ∧ reducing.port.outstanding = some (.reduce q, due)
          ∧ reducing.composer.snapshot = some v ∧ v.shown = some (x, d) ∧ reducing.composer.trace.asked = some 0
          ∧ reducing.composer.trace.todo = .ch1 :: [] ∧ v.channel .ch1 = some ch
          ∧ (d.chans.find? fun y => y.chan == .ch1) = some cd :=
  ⟨rfl, _, _, _, _, _, _, _, rfl, rfl, rfl, rfl, rfl, rfl, rfl, rfl⟩

/-- A view drawn at its own scale, the first and last samples of a record, and codes at the ends of the visible ones. -/
theorem witness_ReduceDataIsDrawn_laws :
    (∃ ch, (snapshotOf live.table live.run.banks).channel .ch1 = some ch ∧ 0 < ch.scale ∧ ch.scale = 1000000 ∧ ch.offset = 0)
      ∧ (0 : Int) < 1000 ∧ (factoryChannel .on 2).colour < 16 ∧ rowOfCode 448 = 399 ∧ rowOfCode 3647 = 0 ∧ rowOfCode 447 = 399 ∧ rowOfCode 3648 = 0 := by
  refine ⟨⟨_, rfl, ?_, ?_, ?_⟩, ?_, ?_, ?_, ?_, ?_, ?_⟩ <;> decide +kernel

/-- HELLO while ONLINE: with a bank FREE once all in flight is dropped, with none, and while STOPPED. -/
theorem witness_HelloStartsAfresh_online :
    let s := queueIs [.force .a] (waitingOn (.run (.abandon .b)) (bank .b .closing false (bank .a .filling true (acq .ready live))))
    let full := bank .b .shown false (bank .a .held true (acq .waitBank live))
    let halt (s : State) : State := { s with table := { s.table with acquire := { s.table.acquire with runState := .stop } } }
    (s.table.system.captureOnline = true ∧ s.table.acquire.runState ≠ .stop ∧ s.run.banks.drop.find .free = some .a)
      ∧ (full.table.system.captureOnline = true ∧ full.table.acquire.runState ≠ .stop ∧ full.run.banks.drop.find .free = none)
      ∧ ((halt s).table.acquire.runState = .stop ∧ (s.run.banks.get .a).state = .filling ∧ (s.run.banks.get .b).state = .closing)
      ∧ ((bank .b .shown false (bank .a .held true live)).table.system.captureOnline = false
          ∧ (bank .b .shown false (bank .a .held true live)).run.banks.find .free = none) := by decide +kernel

/-- Taken in flight with a queue and an outstanding request, it arms bank A at once (R97). -/
theorem test_hello_online_arms :
    let s := queueIs [.force .a] (waitingOn (.run (.abandon .b)) (bank .b .closing false (bank .a .filling true (acq .ready live))))
    ∃ t, exec (.hello CaptureMsg.hello.bytes) s = .next t ∧ t.out.capture = [.request (.run (armOf .a))] ∧ t.run.queue = []
      ∧ (t.run.banks.get .b).state = .free := ⟨_, rfl, by decide +kernel⟩

theorem witness_HelloStartsAfresh :
    live.inReset = false ∧ live.table.system.captureOnline = false ∧ live.port.outstanding = none ∧ live.run.queue = []
      ∧ live.table.acquire.runState ≠ .stop ∧ live.run.banks.find .free = some .a
      ∧ (let s := waitingOn (.reduce { bank := .b, chan := .ch1, first := 0, last := 9 })
           (bank .b .shown false (bank .a .filling true (acq .arming live)))
         s.table.system.captureOnline = true ∧ (s.run.banks.get .b).state = .shown ∧ (s.run.banks.get .a).state = .filling
           ∧ s.port.hasReduce = true)
      ∧ ({ live with table := { live.table with acquire := { live.table.acquire with runState := .stop } } }).table.acquire.runState = .stop := by
  decide +kernel

/-- Bank B is FILLING with its ARM acknowledged, in an in-flight state. -/
def filling (a : AcqState) : State := bank .b .filling true (acq a live)

theorem witness_PrefilledEntersReady :
    (filling .arming).inReset = false ∧ (filling .arming).takesNotices .b ∧ (filling .arming).table.acquire.acqState = .arming
      ∧ (filling .arming).run.forcePending = false
      ∧ ({ filling .arming with run := { (filling .arming).run with forcePending := true } }).run.forcePending = true :=
  ⟨rfl, by unfold State.takesNotices; decide, rfl, rfl, rfl⟩

theorem witness_TriggeredWritesTheStatus :
    (filling .ready).inReset = false ∧ (filling .ready).takesNotices .b ∧ (filling .ready).table.acquire.acqState = .ready
      ∧ (filling .arming).takesNotices .b :=
  ⟨rfl, by unfold State.takesNotices; decide, rfl, by unfold State.takesNotices; decide⟩

theorem witness_CompleteEndsTheAcquisition :
    let set (r : RunState) (s : State) : State := { s with table := { s.table with acquire := { s.table.acquire with runState := r } } }
    let s := filling .triggered
    s.inReset = false ∧ s.takesNotices .b ∧ s.table.acquire.acqState.inFlight = true ∧ s.table.acquire.runState = .run
      ∧ (set .single s).table.acquire.runState = .single ∧ (s.run.banks.get (Bank.b).other).state = .free
      ∧ ((bank .a .held true s).run.banks.get .a).state = .held
      ∧ ((bank .a .shown true s).run.banks.get .a).state ≠ .held ∧ ((bank .a .shown true s).run.banks.get .a).state ≠ .free := by
  unfold State.takesNotices; decide +kernel

theorem witness_OtherNoticesAreIgnored :
    live.inReset = false ∧ (255 : Nat) < 256 ∧ bankOf 255 = none ∧ bankOf 0 = some .a ∧ ¬ live.takesNotices .a
      ∧ (filling .ready).table.acquire.acqState ≠ .arming
      ∧ ((filling .triggered).table.acquire.acqState ≠ .arming ∧ (filling .triggered).table.acquire.acqState ≠ .ready)
      ∧ (filling .stopped).table.acquire.acqState.inFlight = false := by
  unfold State.takesNotices; decide +kernel

theorem witness_PortFailureGoesOffline :
    let s := waitingOn (.reduce { bank := .b, chan := .ch1, first := 0, last := 9 })
      (bank .b .shown false (bank .a .filling true (acq .arming live)))
    s.inReset = false ∧ s.port.outstanding = some (.reduce { bank := .b, chan := .ch1, first := 0, last := 9 }, 2000)
      ∧ s.faults.stops .captureTimeout ∧ (s.run.banks.get .a).state = .filling ∧ (s.run.banks.get .b).state = .shown
      ∧ s.port.hasReduce = true :=
  ⟨rfl, rfl, ⟨_, rfl, rfl⟩, rfl, rfl, rfl⟩

theorem witness_AutoTimerForcesATrigger :
    let s := { filling .ready with run := { (filling .ready).run with autoTimer := some 50000 } }
    s.inReset = false ∧ s.table.acquire.acqState = .ready ∧ s.run.autoTimer = some 50000 ∧ s.run.banks.find .filling = some .b :=
  ⟨rfl, rfl, rfl, rfl⟩

theorem witness_FrameStartTakesTheSnapshot :
    let swap := bank .b .held true (bank .a .shown true (acq .stopped live))
    let waits := bank .b .held true (bank .a .shown true (acq .waitBank live))
    live.inReset = false ∧ (live.composer.state = .idle ∧ live.composer.recompose = true) ∧ live.run.banks.find .held = none
      ∧ ¬ (reducing.composer.state = .idle ∧ reducing.composer.recompose = true)
      ∧ (swap.run.banks.find .held = some .b ∧ swap.run.banks.find .shown = some .a ∧ swap.table.acquire.acqState ≠ .waitBank)
      ∧ (waits.run.banks.find .held = some .b ∧ waits.run.banks.find .shown = some .a ∧ waits.table.acquire.acqState = .waitBank)
      ∧ ((bank .b .held true live).run.banks.find .held = some .b ∧ (bank .b .held true live).run.banks.find .shown = none) := by
  decide +kernel

/-- A view whose annotation has the last colour and the last text row, and a FRONT buffer with a paint in the last pixel. -/
theorem witness_FrameEndAndVerticalBlankSwap_drawable :
    let note : Annotation := { text := ['A'], column := 79, row := 36, colour := 15 }
    let v := { snapshotOf live.table live.run.banks with annotations := [(1, note)] }
    (v.channels ≠ [] ∧ v.drawable) ∧ live.buffersInScreen :=
  ⟨⟨by decide, by unfold View.drawable; decide⟩, rfl, rfl⟩

theorem witness_FrameEndAndVerticalBlankSwap :
    let ended := { reducing with composer := { reducing.composer with trace := noTrace } }
    let swap := { live with composer := { live.composer with state := .waitSwap } }
    (∃ v, ended.composer.state = .composing ∧ ended.composer.snapshot = some v ∧ ended.composer.trace.todo = [])
      ∧ ended.run.banks.find .held = none ∧ (bank .b .held true (bank .a .shown true ended)).run.banks.find .held = some .b
      ∧ (bank .b .held true (bank .a .shown true ended)).run.banks.find .shown = some .a
      ∧ (swap.composer.state = .waitSwap ∧ swap.composer.recompose = true)
      ∧ ({ swap with composer := { swap.composer with recompose := false } }).composer.recompose = false
      ∧ live.composer.state ≠ .waitSwap :=
  ⟨⟨_, rfl, rfl, rfl⟩, by decide, by decide, by decide, by decide, rfl, by decide⟩

/-! ## Witnesses: the Storage Engine -/

/-- A present flash whose slots are about to be scanned. -/
def present : State :=
  { live with table := { live.table with system := { live.table.system with storePresent := true } } }

theorem witness_StartUpDetectsAndScans :
    live.inReset = false ∧ live.table.system.storeState = .scanning ∧ live.table.system.storePresent = false
      ∧ noFlash 0 0 0 = true ∧ noFlash 0xFF 0xFF 0xFF = true ∧ noFlash 0 0xFF 0 = false
      ∧ present.table.system.storeState = .scanning ∧ present.table.system.storePresent = true
      ∧ (Instr.startUpScan (blank 0 :: List.replicate 31 (blank 0xFF))).wellFormed = true
      ∧ classify present.table (blank 0xFF) = .empty ∧ classify present.table (blank 0) = .damaged
      ∧ classify present.table foreignSector = .foreign ∧ ∃ i, classify live.table validSector = .valid i :=
  ⟨rfl, rfl, rfl, by decide, by decide, by decide, rfl, rfl,
    by simp [Instr.wellFormed, sectorOk, sectorBytes, blank_length], (test_sector_blank _).1, (test_sector_blank _).2,
    test_sector_foreign _, test_sector_valid _ rfl⟩

theorem witness_WritesRunTheirPhases :
    let storing := working .store 31 (some .erase) none live
    let page (p : Nat) := working .store 0 (some .program) (some p) live
    let verify := working .store 0 (some .verify) none { live with engine := { live.engine with image := validSector } }
    let erasing := working .erase 0 none none live
    (storing.inReset = false ∧ storing.engine.op = some { op := .store, slot := 31, mask := .all } ∧ storing.engine.phase = some .erase
        ∧ storing.engine.waitReady = false)
      ∧ ((page 1).engine.page = some 1 ∧ (page 15).engine.page = some 15 ∧ (page 0).engine.page = some 0
          ∧ (page 0).engine.phase = some .program)
      ∧ (verify.engine.phase = some .verify ∧ validSector = verify.engine.image ∧ ∃ i, classify verify.table validSector = .valid i)
      ∧ (erasing.engine.op = some { op := .erase, slot := 0, mask := .all } ∧ erasing.engine.phase = none)
      ∧ validSector.length = 4096 ∧ (blank 0).length = 4096 ∧ (∀ i, classify verify.table (blank 0) ≠ .valid i)
      ∧ (0x01 : Byte).getLsbD 0 = true ∧ ((0x20 : Byte).getLsbD 0 = false ∧ (0x20 : Byte).getLsbD 5 = true)
      ∧ ((0x40 : Byte).getLsbD 0 = false ∧ (0x40 : Byte).getLsbD 6 = true ∧ (0x40 : Byte).getLsbD 5 = false)
      ∧ ((0x00 : Byte).getLsbD 0 = false ∧ (0x00 : Byte).getLsbD 5 = false ∧ (0x00 : Byte).getLsbD 6 = false) :=
  ⟨⟨rfl, rfl, rfl, rfl⟩, ⟨rfl, rfl, rfl, rfl⟩, ⟨rfl, rfl, test_sector_valid _ rfl⟩, ⟨rfl, rfl⟩, validSector_length, blank_length 0,
    fun _ h => (by rw [(test_sector_blank _).2] at h; cases h), by decide, by decide, by decide, by decide⟩

theorem witness_TimeoutsAndTheWaitForReady :
    let storing := working .store 0 (some .erase) none live
    let page := working .store 0 (some .program) (some 1) live
    let waits (o : Operation) := { working o 31 none none live with
                                     engine := { (working o 31 none none live).engine with waitReady := true } }
    (storing.inReset = false ∧ storing.engine.op = some { op := .store, slot := 0, mask := .all } ∧ storing.engine.phase = some .erase)
      ∧ (page.engine.phase = some .program ∧ page.engine.waitReady = false)
      ∧ (waits .erase).engine.op = some { op := .erase, slot := 31, mask := .all } ∧ (waits .recall).engine.waitReady = true
      ∧ Operation.recall.recalls = true :=
  ⟨⟨rfl, rfl, rfl⟩, ⟨rfl, rfl⟩, rfl, rfl, rfl⟩

theorem witness_RecallsReadAndApply :
    let reading (o : Operation) := working o 31 (some .read) none live
    let waits := { reading .defaults with engine := { (reading .defaults).engine with waitReady := true } }
    let applying := working .recall 0 (some .apply) none { live with engine := { live.engine with image := validSector } }
    (live.inReset = false ∧ (reading .powerOn).engine.op = some { op := .powerOn, slot := 31, mask := .all }
        ∧ Operation.powerOn.recalls = true ∧ Operation.defaults.recalls = true)
      ∧ ((reading .recall).engine.phase = some .read ∧ (reading .recall).engine.waitReady = false)
      ∧ (waits.engine.phase = some .read ∧ waits.engine.waitReady = true)
      ∧ (applying.engine.phase = some .apply ∧ ∃ i, classify applying.table applying.engine.image = .valid i)
      ∧ validSector.length = 4096 ∧ (blank 0xFF).length = 4096 ∧ ∀ i, classify live.table (blank 0xFF) ≠ .valid i :=
  ⟨⟨rfl, rfl, rfl, rfl⟩, ⟨rfl, rfl⟩, ⟨rfl, rfl⟩, ⟨rfl, test_sector_valid _ rfl⟩, validSector_length, blank_length _,
    fun _ h => (by rw [(test_sector_blank _).1] at h; cases h)⟩

/-! ## The manual's worked cases -/

/-- The settings of a worked case of 04_acquisition_planning: which channels are displayed, and the timebase. -/
def planned (shown : List OnOff) (mode : AcqMode) (scale position length : Int) : Table :=
  let t := live.table
  { t with
    channels := t.channels.zipWith (fun c d => { c with display := d }) shown
    acquire := { t.acquire with acqMode := mode }
    timebase := { t.timebase with scale := scale, position := position, length := length } }

/-- Case A of 04_acquisition_planning. -/
theorem test_plan_two_channels :
    let p := planOf (planned [.on, .off, .on, .off] .sample 2000000 3000000 10000)
    (p.base, p.decim, p.interval, p.length, p.pre, p.delay, p.autoMs) = (500, 4, 2000, 10000, 3500, 0, 51) := by decide +kernel

/-- Case C, the slowest and longest record, and the event of Case D whose delay is 3,980. -/
theorem test_plan_limits :
    let p := planOf (planned [.on, .off, .off, .off] .sample 50000000000000 0 10000000)
    let q := planOf (planned [.on, .off, .off, .off] .sample 2000 2000000 10000)
    (p.decim, p.interval, p.length, p.pre, p.autoMs) = (100000, 50000000, 10000000, 5000000, 1000050)
      ∧ (q.interval, q.length, q.pre, q.delay) = (500, 40, 0, 3980) := by decide +kernel

/-- The front-end codes of Case B of 04_acquisition_planning. -/
theorem test_front_end_codes :
    let c := { factoryChannel .on 2 with scale := 200000, offset := 300000 }
    ((frontEndOf .ch1 c).divided, (frontEndOf .ch1 c).gain, (frontEndOf .ch1 c).offsetCode) = (false, 1250, 35168) := by decide +kernel

/-- Case C of 07_waveform_mapping: the rescaled codes and the rows they are drawn in. -/
theorem test_rescaled_codes :
    let d : ChanDesc := ⟨.ch1, 200000, 300000⟩
    let c (inv : Bool) : ViewChannel :=
      { chan := .ch1, probe := 10, fine := false, scale := 100000, offset := 300000, coupling := .dc, display := .on, invert := inv
        label := none, colour := 2 }
    [2448, 2048, 1648, 448, 4095].map (drawnCode d (c false)) = [2848, 2048, 1248, -1152, 4095]
      ∧ [2448, 2048, 1648, 448, 4095].map (fun k => rowOfCode (drawnCode d (c true) k)) = [299, 199, 99, 0, 399] := by
  decide +kernel

/-- The carry rows of Case B of 07_waveform_mapping from column 0 (row 199) towards column 50 (row 149). -/
theorem test_interpolated_carry :
    (interpolated 0 50 199 149 2 1 1 199).2 = 198 ∧ (interpolated 0 50 199 149 2 49 1 199).2 = 150 := by decide +kernel

/-- The table of R132. -/
theorem test_formatted_quantities :
    formatted .time (some 400000) = "400 ns".toList ∧ formatted .frequency (some 2500000000) = "2.50 MHz".toList
      ∧ formatted .voltage (some 999600) = "1.00 V".toList ∧ formatted .time (some (-7000000)) = "-7.00 us".toList
      ∧ formatted .time (some 0) = "0 s".toList ∧ formatted .time none = "----".toList := by decide +kernel

/-- The example of a probe change in 02_settings_and_their_ranges: what AMEND CHANNEL 1 probe 1 leaves. -/
theorem test_probe_change_carries :
    let t := live.table
    let t := { t with
      channels := t.channels.set 0 { factoryChannel .on 2 with offset := 300000 }
      trigger := { t.trigger with level := some 500000 } }
    let u := (applyRecord t ⟨.channel, 1⟩ [(.chProbe, .num 1)]).1
    (u.channels[0]?.map fun c => (c.probe, c.scale, c.offset)) = some (1, 100000, 30000) ∧ u.trigger.level = some 50000 := by
  decide +kernel

/-- Two detents down of CHANNEL 1's scale in one accepted intent: the level is held to the range that the scale and the offset have at the
end of the record, 3 V to 5 V, and not to one on the way (R17, R28). -/
theorem test_detents_finish_the_record_once :
    let t := live.table
    let t := { t with
      channels := t.channels.set 0 { factoryChannel .on 2 with scale := 1000000, offset := 9000000 }
      trigger := { t.trigger with level := some 4000000 } }
    let i : Intent := { control := .knob 0, kind := .detent, field := .chScale, total := -2, arg := none }
    let u := (intentWrite t ⟨.channel, 1⟩ i).1
    (u.channels[0]?.map fun c => (c.scale, c.offset)) = some (200000, 4000000) ∧ u.trigger.level = some 4000000 := by
  decide +kernel

/-- The fifth detent of the acceleration example of 03_front_panel has the multiplier 5. -/
theorem test_detent_acceleration :
    let e : KnobEntry := { levels := none, quarter := 0, lastDir := some .cw, recent := [0, 20000, 40000, 60000] }
    (completeDetent live.table 80000 4 .cw e).2 = [.detent 4 offset1 .cw 5] := by decide +kernel

/-- A step runs IDENTIFY for the 4-channel build before detection: DONE with the codes of 12_formats. -/
theorem test_identify_answer :
    ∃ t, exec .identify (asking 1 [] live) = .next t
      ∧ t.link.response.take 12 = [0x3C, 0x01, 0x00, 0x00, 0x07, 0x4B, 0x56, 0x04, 0x28, 0x01, 0x04, 0x00] := ⟨_, rfl, by decide +kernel⟩

/-- A FORCE while the Run Controller is OFFLINE is answered NOT_ARMED, outcome 20h (R87, 12_formats). -/
theorem test_force_offline :
    ∃ t, exec .force (asking 9 [] live) = .next t ∧ t.link.response.take 5 = [0x3C, 0x09, 0x20, 0x00, 0x00] := ⟨_, rfl, by decide +kernel⟩

/-- The end of the reset sends QUERY (R97). -/
theorem test_reset_end_queries : ∃ t, exec .resetEnd State.reset = .next t ∧ t.out.capture = [.query] := ⟨_, rfl, by decide +kernel⟩


/-! ## Reading requests (R175), the palette and TOGGLE -/

/-- AMEND LAMPBIND 9 with its value named before its target: the argument takes the sort of the target the request names. -/
theorem test_value_before_its_target_is_accepted :
    let b : Except Unit ReadItems := match readAmend live.table [10, 9, 0, 0x02, 0x02, 0x01, 0x00, 0x01, 0x01, 0x01, 0x07] with
      | .inr b => if itemsRefused live.table ⟨.lampbind, 9⟩ b.items b.stop = none then .ok b.items else .error ()
      | .inl _ => .error ()
    b.toOption = some [(.lbValue, some (.present (.enum 0))), (.lbTarget, some (.ref ⟨⟨.channel, 1⟩, .chDisplay⟩))] := by decide +kernel

/-- AMEND LAMPBIND 0 that names its value absent and then present before its target: the second takes the sort of the target named, and
naming it again is what fails. -/
theorem test_second_value_before_its_target :
    let l : List Byte := [0x02, 0x00, 0x02, 0x01, 0, 0, 0, 0, 0, 0, 0, 2, 0x01, 0x06, 0x01, 0x01]
    let answer : Option Reply := match readAmend live.table ([10, 0, 0, 3] ++ l) with
      | .inr b => itemsRefused live.table ⟨.lampbind, 0⟩ b.items b.stop
      | .inl r => some r
    answer = some (atField .badValue 2) := by decide +kernel

/-- AMEND LAMPBIND 0 with its own value as its target: the argument that the value then holds is of the sort of the target named, which
is again an argument, so 01 01 01 is cut short (R175). -/
theorem test_value_that_targets_itself :
    readAmend live.table ([10, 0, 0, 2] ++ [0x01, 0x0A, 0x00, 0x02] ++ [0x02, 0x01, 0x01, 0x01]) = .inl (atField .badValue 0) := by
  decide +kernel

/-- A class number that no class has, and a field identifier that the class has not, in a reference that a body holds (R175). -/
theorem test_unknown_names_in_a_reference :
    let answer (l : List Byte) : Option Reply := match readAmend live.table l with
      | .inr b => itemsRefused live.table panelKey b.items b.stop
      | .inl r => some r
    answer [6, 1, 0, 1, 3, 99, 1, 1] = some (bare .noRecord)
      ∧ answer [6, 1, 0, 1, 3, 1, 1, 99] = some (atField .unknownField 1) := by decide +kernel

/-- CURSOR.source has two members in the 2-channel build, and can be toggled there alone (R21, R49). -/
theorem test_toggle_needs_two_members :
    let k : Keybind := { action := .toggle, target := some ⟨⟨.cursor, 1⟩, .cuSource⟩, argument := none }
    k.legal (State.start 2).table = true ∧ k.legal (State.start 4).table = false := by decide +kernel

/-- Three rows of the palette of R101. -/
theorem test_palette :
    palette.length = 16 ∧ palette[2]? = some ⟨255, 224, 0⟩ ∧ palette[6]? = some ⟨255, 140, 0⟩ ∧ palette[15]? = some ⟨200, 120, 255⟩ := by
  decide
end Sys2Proof.Tests
end

/-! The notices PREFILLED and TRIGGERED taken in flight (R83 to R85), from their bytes on the Capture Port to the state they leave. -/

namespace Sys2Proof.Machine

/-! ## From the bytes of a notice to its meaning (R83, R92) -/

/-- A framed payload is read back as the message that its kind and payload make. -/
theorem readMessage_frameMessage (kind : Byte) (payload : List Byte) (h : payload.length < 65536) :
    readMessage (frameMessage kind payload) = captureMsg kind payload := by
  have hlength : natBE (bytesBE 2 payload.length) = payload.length := by
    rw [natBE_bytesBE]; exact Nat.mod_eq_of_lt h
  have hcrc (l : List Byte) : (crc16Bytes l).length = 2 := bytesBE_length 2 _
  obtain ⟨hi, lo, hbytes⟩ : ∃ hi lo, bytesBE 2 payload.length = [hi, lo] := ⟨_, _, rfl⟩
  rw [hbytes] at hlength
  simp [readMessage, frameMessage, hbytes, hlength, hcrc]

theorem bankOf_number (x : Bank) : bankOf x.number = some x := by cases x <;> rfl

theorem Bank.number_lt (x : Bank) : x.number < 256 := by cases x <;> decide

theorem readMessage_prefilled (n : Nat) (h : n < 256) :
    readMessage (CaptureMsg.prefilled n).bytes = some (.prefilled n) := by
  rw [CaptureMsg.bytes, readMessage_frameMessage _ _ (by simp)]
  simp [captureMsg, byte_toNat n h]

theorem readMessage_triggered (n : Nat) (forced : Bool) (h : n < 256) :
    readMessage (CaptureMsg.triggered n forced).bytes = some (.triggered n forced) := by
  rw [CaptureMsg.bytes, readMessage_frameMessage _ _ (by simp)]
  cases forced <;> simp [captureMsg, byte_toNat n h]

section
variable {s : State} {x : Bank}

/-- A notice that names a bank which takes notices is the bank's (R83). -/
theorem State.onNotice_of_takesNotices (f : Bank → State → State) (h : s.takesNotices x) :
    s.onNotice x.number f = f x s := by
  obtain ⟨hfilling, harmed, honline⟩ := h
  simp [State.onNotice, State.noticeBank, bankOf_number, hfilling, harmed, honline]

theorem exec_prefilled_of_takesNotices (hr : s.inReset = false) (h : s.takesNotices x) :
    exec (.prefilled (CaptureMsg.prefilled x.number).bytes) s = .next (s.begin.takePrefilled x).settle := by
  have hbegin : s.begin.takesNotices x := h
  calc exec (.prefilled (CaptureMsg.prefilled x.number).bytes) s
      = .next (s.begin.takeMessage onPrefilled (CaptureMsg.prefilled x.number).bytes).settle := command_next _ s hr
    _ = .next (s.begin.onNotice x.number State.takePrefilled).settle := by
        rw [State.takeMessage, readMessage_prefilled _ x.number_lt]; rfl
    _ = .next (s.begin.takePrefilled x).settle := by rw [State.onNotice_of_takesNotices _ hbegin]

theorem exec_triggered_of_takesNotices (forced : Bool) (hr : s.inReset = false) (h : s.takesNotices x) :
    exec (.triggered (CaptureMsg.triggered x.number forced).bytes) s
      = .next (s.begin.takeTriggered x forced).settle := by
  have hbegin : s.begin.takesNotices x := h
  calc exec (.triggered (CaptureMsg.triggered x.number forced).bytes) s
      = .next (s.begin.takeMessage onTriggered (CaptureMsg.triggered x.number forced).bytes).settle := command_next _ s hr
    _ = .next (s.begin.onNotice x.number fun y => State.takeTriggered y forced).settle := by
        rw [State.takeMessage, readMessage_triggered _ forced x.number_lt]; rfl
    _ = .next (s.begin.takeTriggered x forced).settle := by rw [State.onNotice_of_takesNotices _ hbegin]

end

/-! ## The end of a step -/

/-- A queue that the port serves at the end of a step is served as the port stood when the step began (R93, R94). -/
theorem State.settle_pump_queued {s s' : State} {q : List RcRequest} (hq : s'.run.queue = q)
    (honline : s'.table.system.captureOnline = s.table.system.captureOnline)
    (hport : s'.port = s.port) (hout : s'.out.capture = []) : State.queued q s s'.pump.settle :=
  State.queued_of_eq (State.pump_queued s' q hq hout) honline.symm (by rw [hport]) rfl rfl rfl rfl

/-- A step that does nothing of its own changes nothing. -/
theorem State.sameBut_begin_settle (s : State) : s.sameBut [] s.begin.settle := by
  simp [State.sameBut]

/-! ## PREFILLED (R84) -/

section
variable {s : State} (x : Bank)

/-- Outside ARMING a PREFILLED does nothing (R83). -/
theorem State.takePrefilled_of_not_arming (h : s.table.acquire.acqState ≠ .arming) : s.takePrefilled x = s := by
  simp [State.takePrefilled, h]

theorem State.takePrefilled_of_forcePending (h : s.table.acquire.acqState = .arming) (hf : s.run.forcePending = true) :
    s.takePrefilled x =
      (((s.setAcqState .ready).onRun fun r => { r with forcePending := false, forceOrigin := .user }).enqueue (.force x)).pump := by
  simp [State.takePrefilled, h, hf]

theorem State.takePrefilled_of_auto (h : s.table.acquire.acqState = .arming) (hf : s.run.forcePending = false)
    (hm : s.table.trigger.mode = .auto) : s.takePrefilled x = (s.setAcqState .ready).startAutoTimer.pump := by
  simp [State.takePrefilled, h, hf, hm, State.setAcqState_table]

theorem State.takePrefilled_of_not_auto (h : s.table.acquire.acqState = .arming) (hf : s.run.forcePending = false)
    (hm : s.table.trigger.mode ≠ .auto) : s.takePrefilled x = (s.setAcqState .ready).pump := by
  simp [State.takePrefilled, h, hf, hm, State.setAcqState_table]

end

/-- Settles O49: a pending force, AUTO mode and NORMAL mode are the three ways a PREFILLED goes on after READY. -/
theorem prefilledEntersReady : Obligations.PrefilledEntersReady := by
  intro s x hr hx harming
  refine ⟨_, exec_prefilled_of_takesNotices hr hx, ?_⟩
  have hbegin : s.begin.table.acquire.acqState = .arming := harming
  cases hf : s.run.forcePending with
  | true =>
    rw [State.takePrefilled_of_forcePending x hbegin hf]
    have hqueued := State.settle_pump_queued (s := s) (q := s.run.queue ++ [.force x])
      (s' := ((s.begin.setAcqState .ready).onRun fun r => { r with forcePending := false, forceOrigin := .user }).enqueue (.force x))
      (by simp) (by simp [State.setAcqState_table]) (by simp) (by simp [noOutputs])
    simp [State.setAcqState_table, hqueued]
  | false =>
    by_cases hm : s.table.trigger.mode = .auto
    · rw [State.takePrefilled_of_auto x hbegin hf hm]
      have hqueued := State.settle_pump_queued (s := s) (q := s.run.queue) (s' := (s.begin.setAcqState .ready).startAutoTimer)
        (by simp) (by simp [State.setAcqState_table]) (by simp) (by simp [noOutputs])
      simp [State.setAcqState_table, hqueued, hf, hm]
    · rw [State.takePrefilled_of_not_auto x hbegin hf hm]
      have hqueued := State.settle_pump_queued (s := s) (q := s.run.queue) (s' := s.begin.setAcqState .ready)
        (by simp) (by simp [State.setAcqState_table]) (by simp) (by simp [noOutputs])
      simp [State.setAcqState_table, hqueued, hf, hm]

/-! ## TRIGGERED (R85) -/

theorem RcRequest.not_isForce (x : Bank) (q : RcRequest) : (!q.isForce x) = decide (q ≠ .force x) := by
  cases q with
  | force y => cases x <;> cases y <;> rfl
  | arm _ _ _ _ => simp [RcRequest.isForce]
  | abandon _ => simp [RcRequest.isForce]
  | update _ _ => simp [RcRequest.isForce]

/-- The table of causes of R85 as a chain of conditions. -/
theorem trigStatusOf_eq (forced : Bool) (origin : ForceOrigin) :
    trigStatusOf forced origin = if forced = false then .triggered else if origin = .auto then .auto else .forced := by
  cases forced <;> cases origin <;> rfl

theorem State.takeTriggered_of_waiting {s : State} (x : Bank) (forced : Bool)
    (h : s.table.acquire.acqState = .arming ∨ s.table.acquire.acqState = .ready) :
    s.takeTriggered x forced = (s.trigger x forced).pump := by
  rcases h with h | h <;> simp [State.takeTriggered, h]

/-- A PREFILLED for the same bank that follows a TRIGGERED changes nothing (R83, R85). -/
theorem exec_prefilled_of_triggered {t : State} {x : Bank} (hr : t.inReset = false) (hx : t.takesNotices x)
    (h : t.table.acquire.acqState = .triggered) :
    ∃ u : State, exec (.prefilled (CaptureMsg.prefilled x.number).bytes) t = .next u ∧ t.sameBut [] u := by
  have hbegin : t.begin.table.acquire.acqState ≠ .arming := by simp [h]
  refine ⟨_, exec_prefilled_of_takesNotices hr hx, ?_⟩
  rw [State.takePrefilled_of_not_arming x hbegin]
  exact t.sameBut_begin_settle

/-- Settles O50: the step is one trigger and the port's next request, and TRIGGERED is a state in which a PREFILLED is ignored. -/
theorem triggeredWritesTheStatus : Obligations.TriggeredWritesTheStatus := by
  intro s x forced hr hx hwaiting
  refine ⟨_, exec_triggered_of_takesNotices forced hr hx, ?_⟩
  have hbegin : s.begin.table.acquire.acqState = .arming ∨ s.begin.table.acquire.acqState = .ready := hwaiting
  rw [State.takeTriggered_of_waiting x forced hbegin]
  obtain ⟨htable, hrun⟩ := State.trigger_effect x forced s.begin
  obtain ⟨hfilling, harmed, -⟩ := hx
  refine ⟨?_, ?_, ?_, ?_, ?_, ?_⟩
  · simp [htable, trigStatusOf_eq]
  · simp [hrun]
  · simp [hrun]
  · simp [hrun]
  · refine State.settle_pump_queued ?_ ?_ ?_ ?_
    · simp [hrun, RcRequest.not_isForce]
    · simp [htable]
    · simp
    · simp [noOutputs]
  · apply exec_prefilled_of_triggered
    · simp [hr]
    · exact ⟨by simp [hrun, hfilling], by simp [hrun, harmed], by simp [htable]⟩
    · simp [htable]

end Sys2Proof.Machine

/-! FAULTS READ and FAULTS CLEAR (R171, R172): what their blocks answer, and the step that answers them. -/

namespace Sys2Proof.Machine

/-! ## The classes a set names (R172) -/

@[simp] theorem Faults.onSet_length (set : Byte) (f : FaultEntry → FaultEntry) (g : Faults) :
    (g.onSet set f).length = g.entries.length := by
  simp [Faults.onSet]

theorem Faults.onSet_getElem? {set : Byte} {f : FaultEntry → FaultEntry} {g : Faults} {k : Nat} {e : FaultEntry}
    (h : g.entries[k]? = some e) : (g.onSet set f)[k]? = some (if set.getLsbD k then f e else e) := by
  simp [Faults.onSet, h]

@[simp] theorem Faults.clear_entries (set : Byte) (g : Faults) : (g.clear set).entries = g.onSet set FaultEntry.cleared := rfl

@[simp] theorem Faults.clear_first (set : Byte) (g : Faults) :
    (g.clear set).first = if (g.clear set).entries.any (·.status) then g.first else none := rfl

/-! ## What CLEAR answers (R172) -/

/-- The search that CLEAR makes over the numbered entries finds a named class whose status is set. -/
theorem namedStatus_iff (set : Byte) (l : List FaultEntry) :
    (l.zipIdx.any fun p => p.1.status && set.getLsbD p.2) = true ↔
      ∃ (k : Nat) (e : FaultEntry), l[k]? = some e ∧ e.status = true ∧ set.getLsbD k = true := by
  simp only [List.any_eq_true, List.mem_zipIdx_iff_getElem?, Bool.and_eq_true, Prod.exists]
  exact exists_comm

theorem faultsClearRequest_done {set : Byte} {s : State}
    (h : ∃ (k : Nat) (e : FaultEntry), s.faults.entries[k]? = some e ∧ e.status = true ∧ set.getLsbD k = true) :
    (faultsClearRequest [set] s).2 = bare .done := by
  simp only [faultsClearRequest, (namedStatus_iff set s.faults.entries).2 h, if_true]

theorem faultsClearRequest_doneNoEffect {set : Byte} {s : State}
    (h : ∀ (k : Nat) (e : FaultEntry), s.faults.entries[k]? = some e → ¬ (e.status = true ∧ set.getLsbD k = true)) :
    (faultsClearRequest [set] s).2 = bare .doneNoEffect := by
  have hnone := mt (namedStatus_iff set s.faults.entries).1 fun ⟨k, e, he, hset⟩ => h k e he hset
  simp only [faultsClearRequest, if_neg hnone]

/-! ## The step that answers a request -/

/-- The end of a step that answers the request in hand, with none held behind it (R159, R160). -/
def State.closeRequest (kind : Byte) (r : Reply) (s : State) : State :=
  ({ s with link := { inHand := none, held := none, response := responseFrame kind r, attn := s.link.attn } }).settle

theorem State.closeRequest_answered (kind : Byte) (r : Reply) (s : State) : (s.closeRequest kind r).answered kind r :=
  ⟨rfl, rfl, rfl⟩

@[simp] theorem State.closeRequest_faults (kind : Byte) (r : Reply) (s : State) : (s.closeRequest kind r).faults = s.faults := rfl

theorem State.closeRequest_attn (kind : Byte) (r : Reply) (s : State) : (s.closeRequest kind r).link.attn = s.attnLevel := rfl

/-- Outside a reset, ATTN follows its cause in the step that answers (R166). -/
theorem State.closeRequest_attentionCause (kind : Byte) (r : Reply) {s : State} (h : s.inReset = false) :
    (s.closeRequest kind r).link.attn = (s.closeRequest kind r).attentionCause := by
  have hlevel : s.attnLevel = s.attentionCause := by simp [State.attnLevel, h]
  exact hlevel

/-- READ answers with the table's bytes and writes no part of the state (R171). -/
theorem exec_faultsRead_of_asks {s : State} (h : s.asks ⟨0x10, [0]⟩) :
    exec .faultsRead s = .next (s.begin.closeRequest 0x10 { code := .done, body := faultsBody s.faults }) :=
  exec_asks .faultsRead ⟨.faults, some 0, faultsReadRequest⟩ rfl [] s h

/-- CLEAR writes the fault table, and is answered (R172). -/
theorem exec_faultsClear_of_asks {s : State} {set : Byte} (h : s.asks ⟨0x10, [1, set]⟩) :
    exec .faultsClear s =
      .next (({ s.begin with faults := s.faults.clear set } : State).closeRequest 0x10 (faultsClearRequest [set] s).2) :=
  exec_asks .faultsClear ⟨.faults, some 1, faultsClearRequest⟩ rfl [set] s h

/-! ## The statements -/

/-- Settles O32: the step only answers, and `faultsBody` is the fault table written out; the attention line's level reads
nothing that the step writes. -/
theorem faultsReadChangesNothing : Obligations.FaultsReadChangesNothing := by
  intro s hasks
  refine ⟨_, exec_faultsRead_of_asks hasks, ?_, ?_, ?_⟩
  · simp [State.sameBut, State.closeRequest]
  · exact s.begin.closeRequest_answered 0x10 { code := .done, body := faultsBody s.faults }
  · intro hfollows
    calc _ = s.begin.attnLevel := s.begin.closeRequest_attn _ _
      _ = s.link.attn := hfollows.symm

/-- Settles O33: the step clears the fault table's named entries and answers by whether one of them had its status set. -/
theorem faultsClearNamedClasses : Obligations.FaultsClearNamedClasses := by
  intro s set hasks
  have hrunning : s.inReset = false := hasks.1
  refine ⟨_, exec_faultsClear_of_asks hasks, ?_, ?_, ?_, ?_, ?_, ?_, ?_⟩
  · simp [State.sameBut, State.closeRequest]
  · simp
  · intro k e he
    exact Faults.onSet_getElem? he
  · simp
  · intro hset
    rw [faultsClearRequest_done hset]
    exact State.closeRequest_answered _ _ _
  · intro hunset
    rw [faultsClearRequest_doneNoEffect hunset]
    exact State.closeRequest_answered _ _ _
  · exact State.closeRequest_attentionCause _ _ hrunning

end Sys2Proof.Machine

/-! The steps as a whole: what every command runs between the beginning and the end of its step, and what that settles of the queue, of an
asserted reset and of the Setting Link's own invariants. -/

namespace Sys2Proof.Machine

/-! ## What a command runs -/

/-- What a command does to the machine between the beginning of its step and its end. -/
def commandEffect : Instr → State → State
  | .powerOnReset chsel => State.powerOn chsel
  | .deviceReset chsel => State.reboot chsel
  | .resetEnd => State.release
  | .writePeriod bytes => State.writePeriod bytes
  | .readPeriod n => State.readPeriod n
  | .heldRequestTaken => State.takeHeld
  | .identify => State.answerRequest .identify identifyRequest
  | .lookup => State.answerRequest .lookup lookupRequest
  | .amend => State.answerRequest .amend amendRequest
  | .create => State.answerRequest .create createRequest
  | .retire => State.answerRequest .retire retireRequest
  | .collect => State.answerRequest .collect collectRequest
  | .intentAccept => State.answerSub .intent 0 intentAcceptRequest
  | .intentDrop => State.answerSub .intent 1 intentDropRequest
  | .defaults => State.answerRequest .defaults defaultsRequest
  | .force => State.answerRequest .force forceRequest
  | .store => State.answerRequest .store storeRequest
  | .recall => State.answerRequest .recall recallRequest
  | .erase => State.answerRequest .erase eraseRequest
  | .directory => State.answerRequest .directory directoryRequest
  | .storageStatus => State.answerRequest .storageStatus storageStatusRequest
  | .protect => State.answerRequest .protect protectRequest
  | .faultsRead => State.answerSub .faults 0 faultsReadRequest
  | .faultsClear => State.answerSub .faults 1 faultsClearRequest
  | .faultsSetup => State.answerSub .faults 2 faultsSetupRequest
  | .keyScan keys pushes => State.keyScan keys pushes
  | .pressAction key => State.takeWaiting (PanelAction.isPress key)
  | .repeatTargetExpiry key => State.repeatExpiry key
  | .knobSample a b => State.knobSample a b
  | .detent knob => State.takeWaiting (PanelAction.isDetent knob)
  | .push knob => State.takeWaiting (PanelAction.isPush knob)
  | .lampPwmPeriod opens => State.lampPeriod opens
  | .errorBlinkPhase lamp => State.blinkPhase lamp
  | .flashClockPhase => State.flashPhase
  | .ownerRunEvent => State.takeOwnerRun
  | .ownerFaultEvent => State.takeOwnerFault
  | .ack msg => State.takeMessage onAck msg
  | .reduceData msg => State.takeMessage onReduceData msg
  | .hello msg => State.takeMessage onHello msg
  | .prefilled msg => State.takeMessage onPrefilled msg
  | .triggered msg => State.takeMessage onTriggered msg
  | .complete msg => State.takeMessage onComplete msg
  | .faultNotice msg => State.takeMessage onFault msg
  | .portFailure => State.portDeadline
  | .queryRetry => State.queryDue
  | .captureLate => State.hearingLate
  | .autoTimerExpiry => State.expireAutoTimer
  | .frameStart => State.frameStartIfDue
  | .frameEnd => State.frameEnd
  | .verticalBlank => State.verticalBlank
  | .backlightPwmPeriod => State.backlightDue
  | .flashDetection id0 id1 id2 => State.detectFlash id0 id1 id2
  | .flashReadyTimeout => State.detectTimeout
  | .startUpScan sectors => State.scanSlots sectors
  | .storeEraseDone status sector => State.storeErased status sector
  | .storeEraseTimeout => State.storeEraseTimeout
  | .pageProgramDone status sector => State.pageProgrammed status sector
  | .pageProgramTimeout => State.pageTimeout
  | .verify sector => State.verifySector sector
  | .recallRead sector => State.recallSector sector
  | .recallReadyTimeout => State.recallTimeout
  | .apply => State.applyImage
  | .slotEraseDone status sector => State.slotErased status sector
  | .slotEraseTimeout => State.slotEraseTimeout
  | .flashReportsReady => State.flashReady

/-- A reset row runs whether or not a reset is asserted. -/
theorem exec_resetRow {c : Instr} (hc : resetRow c = true) (s : State) :
    exec c s = .next (commandEffect c s.begin).settle := by
  cases c
  case powerOnReset | deviceReset | resetEnd => rfl
  all_goals simp [resetRow] at hc

/-- A row that is no reset row, with operands that can come, is a `command`. -/
theorem exec_command {c : Instr} (hc : resetRow c = false) (hw : c.wellFormed = true) (s : State) :
    exec c s = command (commandEffect c) s := by
  cases c
  case powerOnReset | deviceReset | resetEnd => simp [resetRow] at hc
  case writePeriod | startUpScan | storeEraseDone | pageProgramDone | verify | recallRead | slotEraseDone =>
    exact checked_next _ _ s hw
  all_goals rfl

theorem resetRow_wellFormed {c : Instr} (hc : resetRow c = true) : c.wellFormed = true := by
  cases c
  case powerOnReset | deviceReset | resetEnd => rfl
  all_goals simp [resetRow] at hc

/-- With operands that no pin and no flash can produce a command stops (log 36). -/
theorem exec_malformed {c : Instr} (hw : c.wellFormed = false) (s : State) : exec c s = .fault .malformedCommand := by
  cases c
  case writePeriod | startUpScan | storeEraseDone | pageProgramDone | verify | recallRead | slotEraseDone =>
    exact checked_fault _ _ s hw
  all_goals simp [Instr.wellFormed] at hw

/-- A command outside a reset, with operands that can come, runs its effect. -/
theorem exec_of_running {c : Instr} {s : State} (hr : s.inReset = false) (hw : c.wellFormed = true) :
    exec c s = .next (commandEffect c s.begin).settle := by
  cases hc : resetRow c with
  | true => exact exec_resetRow hc s
  | false => rw [exec_command hc hw, command_next _ s hr]

/-- A command ends in a state in one of two ways: it runs its effect, or a reset is asserted and it runs nothing. -/
theorem exec_next {c : Instr} {s t : State} (h : exec c s = .next t) :
    t = (commandEffect c s.begin).settle ∨ t = s.begin.settle := by
  cases hw : c.wellFormed with
  | false => rw [exec_malformed hw] at h; cases h
  | true =>
    cases hc : resetRow c with
    | true => rw [exec_resetRow hc] at h; cases h; exact .inl rfl
    | false =>
      rw [exec_command hc hw] at h
      cases hr : s.inReset with
      | false => rw [command_next _ s hr] at h; cases h; exact .inl rfl
      | true =>
        simp only [command, always, State.begin_inReset, hr, if_true, Host.Outcome.next.injEq] at h
        exact .inr h.symm

/-- The end of a reset lets the time base drive the part, asks for the capture controller and the flash, and starts the first frame. -/
theorem State.release_frame (s : State) :
    s.release.link = s.link ∧ s.release.pending = s.pending ∧ s.release.faults = s.faults ∧ s.release.inbox = s.inbox
      ∧ s.release.planner = s.planner ∧ s.release.table.settings = s.table.settings := by
  unfold State.release
  split <;> simp

/-- A request that is answered leaves the queue alone when its block does. -/
theorem State.answerRequest_pending {r : Req} {block : List Byte → State → State × Reply} {s : State}
    (h : ∀ body, (block body s).1.pending = s.pending) : (s.answerRequest r block).pending = s.pending := by
  unfold State.answerRequest
  (repeat' split) <;> simp [h]

theorem State.answerSub_pending {r : Req} {sub : Byte} {block : List Byte → State → State × Reply} {s : State}
    (h : ∀ body, (block body s).1.pending = s.pending) : (s.answerSub r sub block).pending = s.pending := by
  unfold State.answerSub
  (repeat' split) <;> simp [h]

/-- No command touches the commands that wait behind it. -/
theorem commandEffect_pending (c : Instr) (s : State) : (commandEffect c s).pending = s.pending := by
  cases c
  case powerOnReset => rfl
  case deviceReset => rfl
  case resetEnd => exact (State.release_frame s).2.1
  all_goals simp [commandEffect, State.answerRequest_pending, State.answerSub_pending]

/-! ## Steps, the queue and an asserted reset -/

/-- Settles O1. -/
theorem stepRunsFrontCommand : Obligations.StepRunsFrontCommand := by
  intro c rest s h
  simp [step, h]

/-- Settles O2. -/
theorem emptyQueueTicks : Obligations.EmptyQueueTicks := by
  intro s h
  simp [step, h, State.tick, State.begin]

/-- Settles O3: a well-formed command is a reset row, or runs its effect, or is held off by a reset. -/
theorem commandsCompleteAndKeepTheQueue : Obligations.CommandsCompleteAndKeepTheQueue := by
  refine ⟨fun c s hw => ?_, fun c s hw => exec_malformed hw s⟩
  cases hc : resetRow c with
  | true => exact ⟨_, exec_resetRow hc s, by simp [commandEffect_pending]⟩
  | false =>
    rw [exec_command hc hw]
    cases hr : s.inReset with
    | false => exact ⟨_, command_next _ s hr, by simp [commandEffect_pending]⟩
    | true => exact ⟨_, command_held _ s hr, rfl⟩

/-- Settles O4. -/
theorem assertedResetHoldsCommandsOff : Obligations.AssertedResetHoldsCommandsOff := by
  intro c s hr hc hw
  rw [exec_command hc hw, command_held _ s hr]

/-! ## Invariants of every step -/

/-- A property that a step's beginning and end, the time base and the queue cannot break. -/
def Unhurried (P : State → Prop) : Prop :=
  ∀ s t : State, t.table = s.table → t.planner = s.planner → t.run = s.run → t.composer = s.composer →
    t.link.inHand = s.link.inHand → t.link.held = s.link.held → P s → P t

/-- A property that every command's effect keeps is kept by every step. -/
theorem step_keeps {P : State → Prop} (hP : Unhurried P) (heffect : ∀ c s, P s → P (commandEffect c s))
    {s t : State} (hs : P s) (h : step s = .next t) : P t := by
  cases hq : s.pending with
  | nil =>
    simp only [step, hq, Host.Outcome.next.injEq] at h
    subst h
    exact hP s _ rfl rfl rfl rfl rfl rfl hs
  | cons c rest =>
    simp only [step, hq] at h
    have hbegin : P ({ s with pending := rest } : State).begin := hP s _ rfl rfl rfl rfl rfl rfl hs
    rcases exec_next h with rfl | rfl
    · exact hP (commandEffect c _) _ rfl rfl rfl rfl rfl rfl (heffect c _ hbegin)
    · exact hP (State.begin _) _ rfl rfl rfl rfl rfl rfl hbegin

/-! ## The Setting Link (R159, R166) -/

/-- Every step ends with ATTN at its causes' level. -/
theorem step_attnFollows {s t : State} (hs : s.attnFollows) (h : step s = .next t) : t.attnFollows := by
  cases hq : s.pending with
  | nil =>
    simp only [step, hq, Host.Outcome.next.injEq] at h
    subst h
    exact hs
  | cons c rest =>
    simp only [step, hq] at h
    rcases exec_next h with rfl | rfl <;> exact State.settle_attnFollows _

/-- A frame that is taken leaves what is held as it was. -/
theorem State.takeFrame_held (bytes : List Byte) (s : State) : (s.takeFrame bytes).link.held = s.link.held := by
  unfold State.takeFrame
  dsimp only
  (repeat' split) <;> simp

theorem State.heldBehind_of_held_none {s : State} (h : s.link.held = none) : s.heldBehind := by
  simp [State.heldBehind, h]

/-- With no request in hand, nothing is held. -/
theorem State.heldBehind.held_none {s : State} (h : s.heldBehind) (hi : s.link.inHand = none) : s.link.held = none := by
  cases hh : s.link.held with
  | none => rfl
  | some b => simp [State.heldBehind, hi, hh] at h

theorem State.takeHeld_heldBehind {s : State} (h : s.heldBehind) : s.takeHeld.heldBehind := by
  unfold State.takeHeld
  split
  · exact State.heldBehind_of_held_none (by simp [State.takeFrame_held])
  · exact h

/-- The request in hand ends, and nothing stays held behind it (R159). -/
theorem State.answer_held (kind : Byte) (r : Reply) (s : State) : (s.answer kind r).link.held = none := by
  unfold State.answer State.takeHeld
  split
  · simp [State.takeFrame_held]
  · rename_i h
    cases hh : (s.respond kind r).link.held with
    | none => rfl
    | some b => exact absurd hh (h b (by simp))

theorem State.answerRequest_heldBehind (r : Req) (block : List Byte → State → State × Reply) {s : State} (h : s.heldBehind) :
    (s.answerRequest r block).heldBehind := by
  unfold State.answerRequest
  (repeat' split) <;> first | exact h | exact State.heldBehind_of_held_none (State.answer_held _ _ _)

theorem State.answerSub_heldBehind (r : Req) (sub : Byte) (block : List Byte → State → State × Reply) {s : State}
    (h : s.heldBehind) : (s.answerSub r sub block).heldBehind := by
  unfold State.answerSub
  (repeat' split) <;> first | exact h | exact State.heldBehind_of_held_none (State.answer_held _ _ _)

/-- A write period holds a frame only behind a request in hand (R159). -/
theorem State.writePeriod_heldBehind (bytes : List Byte) {s : State} (h : s.heldBehind) : (s.writePeriod bytes).heldBehind := by
  unfold State.writePeriod
  dsimp only
  split
  · exact h
  · split
    · rename_i hi
      exact State.heldBehind_of_held_none (by rw [State.takeFrame_held]; exact h.held_none hi)
    · rename_i f hi _
      simp [State.heldBehind, hi]
    · exact h

theorem State.heldBehind_of_link {s t : State} (h : t.link = s.link) (hs : s.heldBehind) : t.heldBehind := by
  unfold State.heldBehind
  rw [h]
  exact hs

/-- The rows that reach the link are those of its periods, its requests and the resets. -/
theorem commandEffect_heldBehind (c : Instr) (s : State) (h : s.heldBehind) : (commandEffect c s).heldBehind := by
  by_cases hrecall : c = .recall
  · subst hrecall
    exact State.answerRequest_heldBehind _ _ h
  cases c
  case powerOnReset => exact State.heldBehind_of_held_none rfl
  case deviceReset => exact State.heldBehind_of_held_none rfl
  case resetEnd => exact State.heldBehind_of_link (State.release_frame s).1 h
  case writePeriod bytes => exact State.writePeriod_heldBehind bytes h
  case heldRequestTaken => exact State.takeHeld_heldBehind h
  case identify | lookup | amend | create | retire | collect | defaults | force | store | erase | directory
    | storageStatus | protect => exact State.answerRequest_heldBehind _ _ h
  case intentAccept | intentDrop | faultsRead | faultsClear | faultsSetup => exact State.answerSub_heldBehind _ _ _ h
  all_goals first | exact absurd rfl hrecall | exact State.heldBehind_of_link (by simp [commandEffect]) h

/-- Settles O5: every step ends in `settle`, and `heldBehind` is kept by every command's effect. -/
theorem everyStepKeepsLinkInvariants : Obligations.EveryStepKeepsLinkInvariants := by
  intro s t ⟨hattn, hheld⟩ h
  refine ⟨step_attnFollows hattn h, step_keeps (P := State.heldBehind) ?_ commandEffect_heldBehind hheld h⟩
  intro s t _ _ _ _ hi hh hs
  unfold State.heldBehind
  rw [hi, hh]
  exact hs

end Sys2Proof.Machine

/-! Every step keeps both frame buffers inside the screen with palette indices below 16 (R99 to R102): a paint outside is dropped where it
is drawn, and no command writes a buffer in another way. -/

namespace Sys2Proof.Machine

/-! ## Drawing -/

/-- Drawing keeps only the paints inside the screen. -/
theorem FrameBuffer.draw_wf (paints : List Paint) {b : FrameBuffer} (h : b.wf = true) : (b.draw paints).wf = true := by
  unfold FrameBuffer.draw
  induction paints generalizing b with
  | nil => exact h
  | cons p ps ih =>
    simp only [List.foldl_cons]
    apply ih
    split
    · rename_i hp
      simpa [FrameBuffer.wf, hp] using h
    · exact h

/-- Both buffers of a Composer lie inside the screen. -/
def Composer.inScreen (c : Composer) : Prop := c.buf0.wf = true ∧ c.buf1.wf = true

theorem Composer.drawBack_inScreen (paints : List Paint) {c : Composer} (h : c.inScreen) : (c.drawBack paints).inScreen := by
  obtain ⟨h0, h1⟩ := h
  unfold Composer.drawBack
  split
  · exact ⟨FrameBuffer.draw_wf paints h0, h1⟩
  · exact ⟨h0, FrameBuffer.draw_wf paints h1⟩

theorem Composer.clearBack_inScreen {c : Composer} (h : c.inScreen) : c.clearBack.inScreen := by
  obtain ⟨h0, h1⟩ := h
  unfold Composer.clearBack
  split
  · exact ⟨rfl, h1⟩
  · exact ⟨h0, rfl⟩

theorem Composer.beginFrame_inScreen (v : View) {c : Composer} (h : c.inScreen) : (c.beginFrame v).inScreen :=
  Composer.drawBack_inScreen _ (Composer.clearBack_inScreen h)

theorem Composer.drawColumn_inScreen (first last least greatest : Nat) {c : Composer} (h : c.inScreen) :
    (c.drawColumn first last least greatest).inScreen := by
  unfold Composer.drawColumn
  (repeat' split) <;> first | exact h | exact Composer.drawBack_inScreen _ h

/-! ## The commands that draw -/

/-- A state whose buffers are those of a Composer inside the screen. -/
theorem State.buffersInScreen_of_composer {c : Composer} {t : State} (h : c.inScreen) (h0 : t.composer.buf0 = c.buf0)
    (h1 : t.composer.buf1 = c.buf1) : t.buffersInScreen := by
  unfold State.buffersInScreen
  rw [h0, h1]
  exact h

theorem State.takeReduceData_buffersInScreen (first last least greatest : Nat) {s : State} (h : s.buffersInScreen) :
    (s.takeReduceData first last least greatest).buffersInScreen := by
  unfold State.takeReduceData
  split
  · exact State.buffersInScreen_of_composer (Composer.drawColumn_inScreen first last least greatest h) (by simp) (by simp)
  · exact h
  · exact h

theorem State.takeMessage_reduceData_buffersInScreen (msg : List Byte) {s : State} (h : s.buffersInScreen) :
    (s.takeMessage onReduceData msg).buffersInScreen := by
  unfold State.takeMessage onReduceData
  (repeat' split) <;> first | exact h | exact State.takeReduceData_buffersInScreen _ _ _ _ h

theorem State.advanceTrace_buffersInScreen {s : State} (h : s.buffersInScreen) : s.advanceTrace.buffersInScreen :=
  State.buffersInScreen_of_composer (c := s.composer) h (by simp) (by simp)

theorem State.frameStart_buffersInScreen {s : State} (h : s.buffersInScreen) : s.frameStart.buffersInScreen := by
  have htake : ({ s with composer := { s.composer with recompose := false } } : State).takeBank.composer.inScreen :=
    State.buffersInScreen_of_composer (c := s.composer) h (by simp) (by simp)
  have hbegin (v : View) := Composer.beginFrame_inScreen v htake
  unfold State.frameStart
  dsimp only
  split
  · exact hbegin _
  · exact State.advanceTrace_buffersInScreen (hbegin _)

theorem State.frameStartIfDue_buffersInScreen {s : State} (h : s.buffersInScreen) : s.frameStartIfDue.buffersInScreen := by
  unfold State.frameStartIfDue
  split
  · exact State.frameStart_buffersInScreen h
  · exact h

theorem State.frameEnd_buffersInScreen {s : State} (h : s.buffersInScreen) : s.frameEnd.buffersInScreen := by
  unfold State.frameEnd
  split
  · rename_i v _ _
    split
    · exact State.buffersInScreen_of_composer (Composer.drawBack_inScreen (upperLayers v) h) (by simp) (by simp)
    · exact h
  · exact h

theorem State.verticalBlank_buffersInScreen {s : State} (h : s.buffersInScreen) : s.verticalBlank.buffersInScreen := by
  unfold State.verticalBlank
  split
  · exact State.frameStartIfDue_buffersInScreen h
  · exact h
  · exact h

theorem State.release_buffersInScreen {s : State} (h : s.buffersInScreen) : s.release.buffersInScreen := by
  unfold State.release
  split
  · exact State.frameStartIfDue_buffersInScreen h
  · exact h

/-- A request row whose block draws nothing draws nothing. -/
theorem State.answerRequest_buffersInScreen {r : Req} {block : List Byte → State → State × Reply} {s : State}
    (hs : s.buffersInScreen) (h0 : ∀ body, (block body s).1.composer.buf0 = s.composer.buf0)
    (h1 : ∀ body, (block body s).1.composer.buf1 = s.composer.buf1) : (s.answerRequest r block).buffersInScreen := by
  refine State.buffersInScreen_of_composer hs ?_ ?_ <;> unfold State.answerRequest <;> (repeat' split) <;> simp [h0, h1]

theorem State.answerSub_buffersInScreen {r : Req} {sub : Byte} {block : List Byte → State → State × Reply} {s : State}
    (hs : s.buffersInScreen) (h0 : ∀ body, (block body s).1.composer.buf0 = s.composer.buf0)
    (h1 : ∀ body, (block body s).1.composer.buf1 = s.composer.buf1) : (s.answerSub r sub block).buffersInScreen := by
  refine State.buffersInScreen_of_composer hs ?_ ?_ <;> unfold State.answerSub <;> (repeat' split) <;> simp [h0, h1]

/-- The commands that draw are REDUCE_DATA and those of the frame cycle; the resets clear; every other leaves both buffers as they were. -/
theorem commandEffect_buffersInScreen (c : Instr) (s : State) (h : s.buffersInScreen) :
    (commandEffect c s).buffersInScreen := by
  by_cases hrecall : c = .recall
  · subst hrecall
    refine State.answerRequest_buffersInScreen h ?_ ?_ <;> simp
  cases c
  case powerOnReset => exact ⟨rfl, rfl⟩
  case deviceReset => exact ⟨rfl, rfl⟩
  case resetEnd => exact State.release_buffersInScreen h
  case reduceData msg => exact State.takeMessage_reduceData_buffersInScreen msg h
  case frameStart => exact State.frameStartIfDue_buffersInScreen h
  case frameEnd => exact State.frameEnd_buffersInScreen h
  case verticalBlank => exact State.verticalBlank_buffersInScreen h
  case identify | lookup | amend | create | retire | collect | defaults | force | store | erase | directory
    | storageStatus | protect =>
    refine State.answerRequest_buffersInScreen h ?_ ?_ <;> simp
  case intentAccept | intentDrop | faultsRead | faultsClear | faultsSetup =>
    refine State.answerSub_buffersInScreen h ?_ ?_ <;> simp
  all_goals
    first
    | exact absurd rfl hrecall
    | exact State.buffersInScreen_of_composer h (by simp [commandEffect, State.backlightDue]) (by simp [commandEffect, State.backlightDue])

/-- Settles O6. -/
theorem everyStepKeepsBuffersInScreen : Obligations.EveryStepKeepsBuffersInScreen := by
  intro s t hs h
  refine step_keeps (P := State.buffersInScreen) ?_ commandEffect_buffersInScreen hs h
  intro s t _ _ _ hc _ _ hs
  exact State.buffersInScreen_of_composer hs (by rw [hc]) (by rw [hc])

end Sys2Proof.Machine

/-! The bank table, the Run Controller and the port agree (R79, R80, R86): what each operation of the Run Controller does to that. -/

namespace Sys2Proof.Machine

/-! ## Bank tables -/

/-- A bank table with no bank FILLING and at most one HELD and one SHOWN. -/
def Banks.atRest (b : Banks) : Prop := b.atMostOne .held ∧ b.atMostOne .shown ∧ b.find .filling = none

/-- A bank table with at most one bank FILLING, HELD and SHOWN each. -/
def Banks.single (b : Banks) : Prop := b.atMostOne .filling ∧ b.atMostOne .held ∧ b.atMostOne .shown

theorem Banks.atRest.single {b : Banks} (h : b.atRest) : b.single := by
  obtain ⟨hheld, hshown, hfill⟩ := h
  refine ⟨?_, hheld, hshown⟩
  unfold Banks.find at hfill
  unfold Banks.atMostOne
  grind

theorem Banks.single.atRest {b : Banks} (h : b.single) (hfill : b.find .filling = none) : b.atRest := ⟨h.2.1, h.2.2, hfill⟩

/-- With no bank FILLING, a bank that becomes FILLING is the only one. -/
theorem Banks.atRest.set_filling {b : Banks} (h : b.atRest) (x : Bank) (e : BankEntry) (he : e.state = .filling) :
    (b.set x e).single ∧ (b.set x e).find .filling = some x := by
  obtain ⟨hheld, hshown, hfill⟩ := h
  unfold Banks.find at hfill
  cases x <;> simp [Banks.single, Banks.atMostOne, Banks.find, Banks.set, he] at * <;> grind

/-- The FILLING bank made FREE or CLOSING leaves none FILLING (R90). -/
theorem Banks.single.move_filling {b : Banks} (h : b.single) {x : Bank} (hx : b.find .filling = some x) {st : BankState}
    (hst : st = .free ∨ st = .closing) : (b.move x st).atRest := by
  obtain ⟨hfill, hheld, hshown⟩ := h
  unfold Banks.find at hx
  cases x <;> rcases hst with rfl | rfl <;>
    simp [Banks.atRest, Banks.atMostOne, Banks.find, Banks.move, Banks.set, Banks.get, BankEntry.free] at * <;> grind

theorem Banks.single.drop {b : Banks} (h : b.single) : b.drop.atRest := by
  obtain ⟨-, hheld, hshown⟩ := h
  unfold Banks.atMostOne at hheld hshown
  unfold Banks.atRest Banks.atMostOne Banks.find Banks.drop BankEntry.drop BankEntry.free
  grind

/-- A bank other than the FILLING one made FREE: nothing else of the agreement moves (R81). -/
theorem Banks.single.move_free {b : Banks} (h : b.single) {y : Bank} (hy : (b.get y).state ≠ .filling) :
    (b.move y .free).single ∧ (b.move y .free).find .filling = b.find .filling := by
  obtain ⟨hfill, hheld, hshown⟩ := h
  cases y <;> simp [Banks.single, Banks.atMostOne, Banks.find, Banks.move, Banks.set, Banks.get, BankEntry.free] at * <;> grind

/-- The bank changes of a COMPLETE for the FILLING bank (R81). -/
theorem Banks.single.complete {b : Banks} (h : b.single) {x : Bank} (hx : (b.get x).state = .filling) : (b.complete x).atRest := by
  obtain ⟨hfill, hheld, hshown⟩ := h
  unfold Banks.complete Banks.atRest
  cases x <;> simp [Banks.atMostOne, Banks.find, Banks.move, Banks.set, Banks.get, Bank.other, BankEntry.free] at * <;> grind

/-- A HELD bank SHOWN where none was (R81). -/
theorem Banks.single.show_held {b : Banks} (h : b.single) {x : Bank} (hx : b.find .held = some x) (hnone : b.find .shown = none) :
    (b.move x .shown).single ∧ (b.move x .shown).find .filling = b.find .filling := by
  obtain ⟨hfill, hheld, hshown⟩ := h
  unfold Banks.find at *
  cases x <;> simp [Banks.single, Banks.atMostOne, Banks.move, Banks.set, Banks.get] at * <;> grind

/-- A HELD bank SHOWN in place of the one SHOWN before, which is freed (R81). -/
theorem Banks.single.show_instead {b : Banks} (h : b.single) {x y : Bank} (hx : b.find .held = some x) (hy : b.find .shown = some y) :
    ((b.move y .free).move x .shown).single ∧ ((b.move y .free).move x .shown).find .filling = b.find .filling := by
  obtain ⟨hfill, hheld, hshown⟩ := h
  unfold Banks.find at *
  cases x <;> cases y <;> simp [Banks.single, Banks.atMostOne, Banks.move, Banks.set, Banks.get, BankEntry.free] at * <;> grind

/-- A bank's armed mark is no part of the agreement (R81). -/
theorem Banks.single.set_armed {b : Banks} (h : b.single) (x : Bank) :
    (b.set x { b.get x with armed := true }).single ∧ (b.set x { b.get x with armed := true }).find .filling = b.find .filling := by
  cases x <;> exact ⟨h, rfl⟩

/-! ## The agreement of bank table, Run Controller and port -/

/-- The agreement without R86's clause about a run_state of STOP. -/
def State.inStep (s : State) : Prop :=
  s.run.banks.single ∧ (s.table.acquire.acqState.inFlight = true ↔ (s.run.banks.find .filling).isSome)
    ∧ (s.table.system.captureOnline = true ↔ s.table.acquire.acqState ≠ .offline)

theorem State.banksAgree_iff (s : State) : s.banksAgree ↔ s.inStep ∧ (s.table.acquire.runState = .stop →
    s.table.acquire.acqState = .stopped ∨ s.table.acquire.acqState = .offline) := by
  unfold State.banksAgree State.inStep Banks.single
  constructor
  · rintro ⟨h1, h2, h3, h4, h5, h6⟩
    exact ⟨⟨⟨h1, h2, h3⟩, h4, h5⟩, fun h => (h6 h).1⟩
  · rintro ⟨⟨⟨h1, h2, h3⟩, h4, h5⟩, h6⟩
    refine ⟨h1, h2, h3, h4, h5, fun h => ⟨h6 h, ?_⟩⟩
    rw [← Option.not_isSome_iff_eq_none, ← h4]
    rcases h6 h with h | h <;> simp [h, AcqState.inFlight]

theorem State.banksAgree.inStep {s : State} (h : s.banksAgree) : s.inStep := (s.banksAgree_iff.1 h).1

/-- The agreement speaks of the bank table, ACQUIRE's acq_state and run_state and capture_online alone. -/
theorem State.banksAgree.congr {s t : State} (h : s.banksAgree) (hb : t.run.banks = s.run.banks)
    (ha : t.table.acquire.acqState = s.table.acquire.acqState) (hr : t.table.acquire.runState = s.table.acquire.runState)
    (hc : t.table.system.captureOnline = s.table.system.captureOnline) : t.banksAgree := by
  unfold State.banksAgree
  rw [hb, ha, hr, hc]
  exact h

/-- The same with the banks moved but none of them into or out of FILLING. -/
theorem State.banksAgree.congr_banks {s t : State} (h : s.banksAgree)
    (hb : t.run.banks.single ∧ t.run.banks.find .filling = s.run.banks.find .filling) (ht : t.table = s.table) : t.banksAgree := by
  rw [State.banksAgree_iff] at *
  obtain ⟨⟨-, hflight, honline⟩, hstop⟩ := h
  obtain ⟨hsingle, hfind⟩ := hb
  unfold State.inStep
  rw [ht, hfind]
  exact ⟨⟨hsingle, hflight, honline⟩, hstop⟩

/-- A state that is not in flight entered with no bank FILLING. -/
theorem State.setAcqState_banksAgree {s : State} {v : AcqState} (hb : s.run.banks.atRest) (hv : v.inFlight = false)
    (honline : s.table.system.captureOnline = true ↔ v ≠ .offline)
    (hstop : s.table.acquire.runState = .stop → v = .stopped ∨ v = .offline) : (s.setAcqState v).banksAgree := by
  rw [State.banksAgree_iff]
  simpa [State.inStep, State.setAcqState_table, hb.single, hv, hb.2.2, honline] using hstop

/-- An arm with no bank FILLING, ONLINE and with a run_state other than STOP (R82). -/
theorem State.arm_banksAgree {s : State} (hb : s.run.banks.atRest) (honline : s.table.system.captureOnline = true)
    (hrun : s.table.acquire.runState ≠ .stop) : s.arm.banksAgree := by
  cases hfree : s.run.banks.find .free with
  | none =>
    obtain ⟨htable, hrunc⟩ := s.arm_of_none hfree
    rw [State.banksAgree_iff]
    simp [State.inStep, htable, hrunc, hb.single, hb.2.2, honline, hrun, AcqState.inFlight]
  | some x =>
    obtain ⟨htable, hrunc⟩ := s.arm_of_free x hfree
    obtain ⟨hsingle, hfind⟩ := hb.set_filling x ⟨.filling, false, some (descriptorOf s.planner s.table)⟩ rfl
    rw [State.banksAgree_iff]
    simp [State.inStep, htable, hrunc, hsingle, hfind, honline, hrun, AcqState.inFlight]

theorem State.bankFreed_banksAgree {s : State} (h : s.banksAgree) : s.bankFreed.banksAgree := by
  unfold State.bankFreed
  split
  · rename_i hwait
    obtain ⟨⟨hsingle, hflight, honline⟩, hstop⟩ := s.banksAgree_iff.1 h
    rw [hwait] at *
    refine State.arm_banksAgree (hsingle.atRest ?_) (by simpa using honline) (by simpa using hstop)
    simpa [AcqState.inFlight] using hflight
  · exact h

theorem State.pump_banksAgree {s : State} (h : s.banksAgree) : s.pump.banksAgree := h.congr (by simp) (by simp) (by simp) (by simp)

/-- An abandon leaves no bank FILLING (R90). -/
theorem State.abandon_atRest {s : State} (h : s.run.banks.single) : s.abandon.run.banks.atRest := by
  unfold State.abandon
  split
  · rename_i hnone
    exact h.atRest hnone
  · rename_i x hx
    dsimp only
    split
    · exact h.move_filling hx (.inl rfl)
    · exact h.move_filling hx (.inr rfl)

/-- An abandon moves banks and queue alone (R90). -/
theorem State.abandon_table (s : State) : s.abandon.table = s.table := by
  unfold State.abandon
  dsimp only
  (repeat' split) <;> rfl

/-- A re-plan or run-state change brings the Run Controller in step with the run_state it finds, whatever it was before (R89). -/
theorem State.handover_banksAgree {s : State} (h : s.inStep) : s.handover.banksAgree := by
  obtain ⟨hsingle, hflight, honline⟩ := h
  have hrest : s.table.acquire.acqState.inFlight = false → s.run.banks.atRest := fun hf => hsingle.atRest (by simpa [hf] using hflight)
  unfold State.handover
  dsimp only
  split
  case h_1 hacq => exact (State.banksAgree_iff _).2 ⟨⟨hsingle, hflight, honline⟩, fun _ => .inr hacq⟩
  case h_2 hacq =>
    simp only [State.onRun_table] at hacq
    split
    · exact (State.banksAgree_iff _).2 ⟨⟨hsingle, hflight, honline⟩, fun _ => .inl hacq⟩
    · rename_i hrun
      exact State.arm_banksAgree (hrest (by simp [hacq, AcqState.inFlight])) (by simpa [hacq] using honline) (by simpa using hrun)
  case h_3 hacq =>
    simp only [State.onRun_table] at hacq
    split
    · exact State.setAcqState_banksAgree (hrest (by simp [hacq, AcqState.inFlight])) rfl (by simpa [hacq] using honline) (by simp)
    · rename_i hrun
      exact (State.banksAgree_iff _).2 ⟨⟨hsingle, hflight, honline⟩, fun hstop => absurd hstop (by simpa using hrun)⟩
  all_goals
    rename_i hacq
    simp only [State.onRun_table] at hacq
    split
    · refine State.setAcqState_banksAgree (State.abandon_atRest hsingle) rfl ?_ (by simp)
      simpa [State.abandon_table, hacq] using honline
    · rename_i hrun
      refine State.arm_banksAgree (State.abandon_atRest hsingle) ?_ ?_
      · simpa [State.abandon_table, hacq] using honline
      · simpa [State.abandon_table] using hrun

/-! ## The operations of the Run Controller -/

theorem State.takeAck_banksAgree {s : State} (h : s.banksAgree) : s.takeAck.banksAgree := by
  unfold State.takeAck
  split
  · rename_i q _ _
    apply State.pump_banksAgree
    cases q with
    | arm x p f c => exact h.congr_banks (h.inStep.1.set_armed x) rfl
    | abandon x =>
      dsimp only
      split
      · rename_i hclosing
        exact State.bankFreed_banksAgree (h.congr_banks (h.inStep.1.move_free (by simp [hclosing])) rfl)
      · exact h.congr rfl rfl rfl rfl
    | force x => exact h.congr rfl rfl rfl rfl
    | update x c => exact h.congr rfl rfl rfl rfl
  · exact h
  · exact h

/-- The restart of a HELLO (R97): ONLINE with no bank FILLING. -/
theorem State.restart_banksAgree {s : State} (hb : s.run.banks.atRest) (honline : s.table.system.captureOnline = true) :
    s.restart.banksAgree := by
  unfold State.restart
  dsimp only
  split
  · exact State.setAcqState_banksAgree hb rfl (by simp [honline]) (by simp)
  · rename_i hrun
    exact State.arm_banksAgree (by simpa using hb) (by simpa [State.setAcqState_table] using honline) hrun

theorem State.takeHello_banksAgree {s : State} (h : s.banksAgree) : s.takeHello.banksAgree := by
  obtain ⟨hsingle, hflight, honline⟩ := h.inStep
  unfold State.takeHello
  split
  · rename_i hon
    refine State.pump_banksAgree (State.banksAgree.congr (State.restart_banksAgree (s := s.failReduces.onRun RunControl.dropAll) ?_ ?_)
      rfl rfl rfl rfl)
    · simpa [RunControl.dropAll] using hsingle.drop
    · simpa using hon
  · rename_i hoff
    refine State.pump_banksAgree (State.restart_banksAgree ?_ ?_)
    · have hacq : s.table.acquire.acqState = .offline := by simpa [hoff] using honline
      have hfill : s.run.banks.find .filling = none := by simpa [hacq, AcqState.inFlight] using hflight
      simpa using hsingle.atRest hfill
    · simp [State.setCaptureOnline_table]

/-- One in-flight state entered from another (R84, R85). -/
theorem State.setAcqState_banksAgree_inFlight {s : State} {v : AcqState} (h : s.banksAgree)
    (hs : s.table.acquire.acqState.inFlight = true) (hv : v.inFlight = true) : (s.setAcqState v).banksAgree := by
  obtain ⟨⟨hsingle, hflight, honline⟩, hstop⟩ := s.banksAgree_iff.1 h
  have hoff : ∀ {a : AcqState}, a.inFlight = true → a ≠ .offline ∧ a ≠ .stopped := by
    intro a ha
    constructor <;> rintro rfl <;> simp [AcqState.inFlight] at ha
  rw [State.banksAgree_iff]
  simp only [State.inStep, State.setAcqState_table, State.setAcqState_frame]
  refine ⟨⟨hsingle, by rw [hv, ← hflight, hs], by simpa [hoff hv, hoff hs] using honline⟩, fun hr => absurd (hstop hr) (by simp [hoff hs])⟩

theorem State.takePrefilled_banksAgree (x : Bank) {s : State} (h : s.banksAgree) : (s.takePrefilled x).banksAgree := by
  unfold State.takePrefilled
  split
  · rename_i hacq
    have hready : (s.setAcqState .ready).banksAgree :=
      State.setAcqState_banksAgree_inFlight h (by rw [hacq]; rfl) rfl
    apply State.pump_banksAgree
    (repeat' split) <;> exact hready.congr rfl rfl rfl rfl
  · exact h

theorem State.trigger_banksAgree (x : Bank) (forced : Bool) {s : State} (h : s.banksAgree)
    (hs : s.table.acquire.acqState.inFlight = true) : (s.trigger x forced).banksAgree :=
  (State.setAcqState_banksAgree_inFlight (v := .triggered) h hs rfl).congr (by simp [State.trigger])
    (by simp [State.trigger, State.setTrigStatus_table]) (by simp [State.trigger, State.setTrigStatus_table])
    (by simp [State.trigger, State.setTrigStatus_table])

theorem State.takeTriggered_banksAgree (x : Bank) (forced : Bool) {s : State} (h : s.banksAgree) :
    (s.takeTriggered x forced).banksAgree := by
  unfold State.takeTriggered
  split
  case h_1 hacq | h_2 hacq => exact State.pump_banksAgree (State.trigger_banksAgree x forced h (by rw [hacq]; rfl))
  all_goals exact h

/-- What a COMPLETE finds in flight is, once a trigger it missed has been taken, in agreement and in flight with the same banks (R86). -/
theorem State.triggered_banksAgree {s : State} (x : Bank) (h : s.banksAgree) (hs : s.table.acquire.acqState.inFlight = true) :
    ∃ u : State, (if s.table.acquire.acqState = .triggered then s else s.trigger x false) = u ∧ u.banksAgree
      ∧ u.run.banks = s.run.banks ∧ u.table.acquire.acqState.inFlight = true := by
  split
  · exact ⟨s, rfl, h, rfl, hs⟩
  · exact ⟨_, rfl, State.trigger_banksAgree x false h hs, by simp [State.trigger],
      by simp [State.trigger, State.setAcqState_table, State.setTrigStatus_table, AcqState.inFlight]⟩

/-- A COMPLETE's end: the bank is HELD, and the Run Controller arms again, waits or stops (R86). -/
theorem State.takeComplete_banksAgree {x : Bank} {s : State} (h : s.banksAgree) (hx : (s.run.banks.get x).state = .filling) :
    (s.takeComplete x).banksAgree := by
  unfold State.takeComplete
  split
  · rename_i hflight
    obtain ⟨u, hu, huagree, hbanks, huflight⟩ := State.triggered_banksAgree x h hflight
    obtain ⟨hsingle, -, honline⟩ := huagree.inStep
    have hon : u.table.system.captureOnline = true := honline.2 (by intro he; simp [he, AcqState.inFlight] at huflight)
    have hrest : (u.run.banks.complete x).atRest := hsingle.complete (by rw [hbanks]; exact hx)
    simp only [hu]
    apply State.pump_banksAgree
    split
    · rename_i hrun
      exact State.arm_banksAgree (by simpa using hrest) (by simpa [State.countAcquisition_table] using hon) (by rw [hrun]; simp)
    · refine State.banksAgree.congr (State.setAcqState_banksAgree (v := .stopped) ?_ rfl ?_ (by simp)) rfl rfl rfl rfl
      · simpa using hrest
      · simp [State.countAcquisition_table, hon]
    · exact State.setAcqState_banksAgree (by simpa using hrest) rfl (by simp [State.countAcquisition_table, hon]) (by simp)
  · exact h

theorem State.failPort_banksAgree (q : PortRequest) {s : State} (h : s.banksAgree) : (s.failPort q).banksAgree := by
  have hdrop := h.inStep.1.drop
  refine (State.banksAgree_iff _).2 ⟨⟨?_, ?_, ?_⟩, ?_⟩ <;>
    simp [State.failPort, State.setAcqState_table, State.setCaptureOnline_table, RunControl.dropAll, AcqState.inFlight, hdrop.single,
      hdrop.2.2]

theorem State.takeBank_banksAgree {s : State} (h : s.banksAgree) : s.takeBank.banksAgree := by
  unfold State.takeBank
  split
  · exact h
  · rename_i x hx
    split
    · rename_i y hy
      exact State.pump_banksAgree (State.bankFreed_banksAgree (h.congr_banks (h.inStep.1.show_instead hx hy) rfl))
    · rename_i hnone
      exact h.congr_banks (h.inStep.1.show_held hx hnone) rfl

theorem State.endBank_banksAgree {s : State} (h : s.banksAgree) : s.endBank.banksAgree := by
  unfold State.endBank
  split
  · rename_i x y hx hy
    have hshown : (s.run.banks.get y).state = .shown := Banks.find_some hy
    exact State.pump_banksAgree (State.bankFreed_banksAgree (h.congr_banks (h.inStep.1.move_free (by simp [hshown])) rfl))
  · exact h

theorem State.advanceTrace_banksAgree {s : State} (h : s.banksAgree) : s.advanceTrace.banksAgree :=
  h.congr (by simp) (by simp) (by simp) (by simp)

theorem State.frameStart_banksAgree {s : State} (h : s.banksAgree) : s.frameStart.banksAgree := by
  have htake := State.takeBank_banksAgree (s := { s with composer := { s.composer with recompose := false } }) (h.congr rfl rfl rfl rfl)
  unfold State.frameStart
  dsimp only
  split
  · exact htake.congr rfl rfl rfl rfl
  · exact State.advanceTrace_banksAgree (htake.congr rfl rfl rfl rfl)

theorem State.frameStartIfDue_banksAgree {s : State} (h : s.banksAgree) : s.frameStartIfDue.banksAgree := by
  unfold State.frameStartIfDue
  split
  · exact State.frameStart_banksAgree h
  · exact h

theorem State.frameEnd_banksAgree {s : State} (h : s.banksAgree) : s.frameEnd.banksAgree := by
  unfold State.frameEnd
  split
  · rename_i v _ _
    have hend := State.endBank_banksAgree (s := { s with composer := s.composer.drawBack (upperLayers v) }) (h.congr rfl rfl rfl rfl)
    split
    · exact hend.congr rfl rfl rfl rfl
    · exact h
  · exact h

theorem State.verticalBlank_banksAgree {s : State} (h : s.banksAgree) : s.verticalBlank.banksAgree := by
  unfold State.verticalBlank
  split
  · exact State.frameStartIfDue_banksAgree (h.congr rfl rfl rfl rfl)
  · exact h
  · exact h

theorem State.release_banksAgree {s : State} (h : s.banksAgree) : s.release.banksAgree := by
  unfold State.release
  split
  · exact State.frameStartIfDue_banksAgree (h.congr (by simp) (by simp) (by simp) (by simp))
  · exact h

end Sys2Proof.Machine

/-! What no draft of an application event writes, beside its ledger: how many channels are built and the DERIVED fields of ACQUIRE (R2, R30,
R72). -/

namespace Sys2Proof.Machine

/-- The number of channels and the DERIVED fields of ACQUIRE. -/
def Table.skeleton (t : Table) : Nat × Int × Int × Int × Int × Int :=
  (t.channels.length, t.acquire.basePs, t.acquire.intervalPs, t.acquire.lengthEff, t.acquire.preCount, t.acquire.delayCount)

theorem Acquire.put_derived (a : Acquire) (f : Field) (v : Value) :
    (a.put f v).basePs = a.basePs ∧ (a.put f v).intervalPs = a.intervalPs ∧ (a.put f v).lengthEff = a.lengthEff
      ∧ (a.put f v).preCount = a.preCount ∧ (a.put f v).delayCount = a.delayCount := by
  unfold Acquire.put; split <;> simp

@[simp] theorem modify1_length {α : Type} (l : List α) (n : Nat) (f : α → α) : (modify1 l n f).length = l.length := by
  unfold modify1; split <;> simp

@[simp] theorem Table.put_skeleton (t : Table) (r : Ref) (v : Value) : (t.put r v).skeleton = t.skeleton := by
  unfold Table.put; split <;> simp [Table.skeleton, Acquire.put_derived]

@[simp] theorem govern_skeleton (n : Field → Bool) (old t : Table) (r : Ref) : (govern n old t r).skeleton = t.skeleton := by
  unfold govern; (repeat' split) <;> simp [Table.skeleton]

@[simp] theorem staleMeasurements_skeleton (p : Measurement → Bool) (t : Table) : (staleMeasurements p t).skeleton = t.skeleton := rfl

@[simp] theorem carryLevel_skeleton (n : ChannelName) (a b : Channel) (t : Table) : (carryLevel n a b t).skeleton = t.skeleton := by
  unfold carryLevel; (repeat' split) <;> simp [Table.skeleton]

@[simp] theorem finishRecord_skeleton (old t : Table) (k : RecKey) : (finishRecord old t k).skeleton = t.skeleton := by
  unfold finishRecord; dsimp only; (repeat' split) <;> simp

@[simp] theorem applyField_skeleton (items : Items) (t : Table) (r : Ref) (v : Value) :
    (applyField items t r v).1.skeleton = t.skeleton := by
  simp [applyField]

@[simp] theorem applyFields_skeleton (items : Items) (k : RecKey) (fs : List Field) (t : Table) :
    (applyFields items k fs t).1.skeleton = t.skeleton := by
  induction fs generalizing t with
  | nil => rfl
  | cons f fs ih => unfold applyFields; split <;> simp [ih]

@[simp] theorem applyRecord_skeleton (t : Table) (k : RecKey) (items : Items) : (applyRecord t k items).1.skeleton = t.skeleton := by
  simp [applyRecord]

@[simp] theorem applyEntry_skeleton (t : Table) (e : Entry) : (applyEntry t e).skeleton = t.skeleton := by simp [applyEntry]

@[simp] theorem Table.addRecord_skeleton (t : Table) (k : RecKey) : (t.addRecord k).skeleton = t.skeleton := by
  unfold Table.addRecord; split <;> simp [Table.skeleton]

@[simp] theorem Table.removeRecord_skeleton (t : Table) (k : RecKey) : (t.removeRecord k).skeleton = t.skeleton := by
  unfold Table.removeRecord; split <;> simp [Table.skeleton]

@[simp] theorem Table.clearFocus_skeleton (t : Table) (k : RecKey) : (t.clearFocus k).skeleton = t.skeleton := by
  unfold Table.clearFocus; (repeat' split) <;> simp [Table.skeleton]

theorem foldl_skeleton {α : Type} (f : Table → α → Table) (h : ∀ t x, (f t x).skeleton = t.skeleton) (l : List α) (t : Table) :
    (l.foldl f t).skeleton = t.skeleton := by
  induction l generalizing t with
  | nil => rfl
  | cons x l ih => simp [ih, h]

@[simp] theorem retireAll_skeleton (t : Table) : (retireAll t).skeleton = t.skeleton := by
  unfold retireAll; exact foldl_skeleton _ (by simp) _ _

@[simp] theorem panelWrite_skeleton (t : Table) (r : Ref) (v : Option Value) : (panelWrite t r v).1.skeleton = t.skeleton := by
  unfold panelWrite; (repeat' split) <;> simp

@[simp] theorem detentSteps_skeleton (r : Ref) (up : Bool) (n : Nat) (t : Table) :
    (detentSteps r up n t).1.skeleton = t.skeleton := by
  induction n generalizing t with
  | zero => rfl
  | succ n ih => unfold detentSteps; dsimp only; (repeat' split) <;> simp [ih]

@[simp] theorem detentsWrite_skeleton (r : Ref) (up : Bool) (n : Nat) (t : Table) :
    (detentsWrite r up n t).1.skeleton = t.skeleton := by
  unfold detentsWrite; split <;> simp

@[simp] theorem intentWrite_skeleton (t : Table) (k : RecKey) (i : Intent) : (intentWrite t k i).1.skeleton = t.skeleton := by
  unfold intentWrite; (repeat' split) <;> simp

/-- A draft as the commands make them: it writes neither the ledger nor the skeleton of the table it is drawn up on, and creates dynamic
records alone. -/
def Draft.lawful (d : Draft) (t : Table) : Prop :=
  d.table.ledger = t.ledger ∧ d.table.skeleton = t.skeleton ∧ ∀ k ∈ d.created, k.cls.dynamic = true

theorem Draft.of_lawful {t u : Table} (hl : u.ledger = t.ledger) (hs : u.skeleton = t.skeleton) : (Draft.of u).lawful t :=
  ⟨hl, hs, by simp [Draft.of]⟩

theorem retireDraft_lawful (t : Table) (k : RecKey) : (retireDraft t k).lawful t := by
  simp [Draft.lawful, retireDraft]

theorem runStateDraft_lawful (t : Table) (r : RunState) : (runStateDraft t r).lawful t := ⟨rfl, rfl, by simp [runStateDraft, Draft.of]⟩

theorem factoryDraft_lawful (t : Table) : (factoryDraft t).lawful t := by
  refine ⟨factoryDraft_ledger t, ?_, by simp [factoryDraft]⟩
  simp only [factoryDraft, retireAll_skeleton]
  exact foldl_skeleton _ (by simp) _ _

theorem recallDraft_lawful (t : Table) (i : Image) (m : Categories) : (recallDraft t i m).lawful t := by
  refine ⟨recallDraft_ledger t i m, ?_, ?_⟩ <;> unfold recallDraft <;> dsimp only <;> split
  · dsimp only
    rw [foldl_skeleton _ (by simp), retireAll_skeleton, foldl_skeleton _ (by simp)]
  · exact foldl_skeleton _ (by simp) _ _
  · intro k hk
    obtain ⟨e, he, rfl⟩ := List.mem_map.1 hk
    exact (List.mem_filter.1 he).2
  · simp [Draft.of]

/-- The draft of a CREATE (R9). -/
theorem createDraft_lawful (t : Table) (k : RecKey) (items : Items) (hk : k.cls.dynamic = true) :
    Draft.lawful { table := (applyRecord (t.addRecord k) k items).1, created := [k], retired := [] } t := by
  simp [Draft.lawful, hk]

end Sys2Proof.Machine

/-! What a command can do to the Setting Table, the Planner and the bank table: each does so through application events, COLLECT, the
intents and the operations of the Run Controller, and a property that all of these keep is kept by every step. -/

namespace Sys2Proof.Machine

/-! ## The heart of the state -/

/-- What application events and the Run Controller write. -/
def State.heart (s : State) : Table × Acquire × Bool × Planner × Banks :=
  (s.table.settings, s.table.acquire, s.table.system.captureOnline, s.planner, s.run.banks)

theorem State.heart_of_same {s t : State} (ht : t.table = s.table) (hp : t.planner = s.planner) (hb : t.run.banks = s.run.banks) :
    t.heart = s.heart := by
  unfold State.heart
  rw [ht, hp, hb]

variable (s : State)

@[simp] theorem State.pump_heart : s.pump.heart = s.heart := State.heart_of_same (by simp) (by simp) (by simp)

@[simp] theorem State.forceTrigger_heart : s.forceTrigger.1.heart = s.heart := by
  refine State.heart_of_same (by simp) (by simp) ?_
  unfold State.forceTrigger
  (repeat' split) <;> simp

@[simp] theorem State.setStoreState_heart (v : StoreState) : (s.setStoreState v).heart = s.heart := by
  simp [State.heart, State.setStoreState_table, Table.settings]

@[simp] theorem State.setStorePresent_heart (v : Bool) : (s.setStorePresent v).heart = s.heart := by
  simp [State.heart, State.setStorePresent_table, Table.settings]

@[simp] theorem State.onEngine_heart (f : Engine → Engine) : (s.onEngine f).heart = s.heart := rfl

@[simp] theorem State.onLink_heart (f : Link → Link) : (s.onLink f).heart = s.heart := rfl

@[simp] theorem State.issueFlash_heart (op : FlashOp) : (s.issueFlash op).heart = s.heart := rfl

@[simp] theorem State.report_heart (c : FaultClass) (d : Option FaultDetail) : (s.report c d).heart = s.heart := rfl

@[simp] theorem State.errorBlink_heart (c : Control) : (s.errorBlink c).heart = s.heart := rfl

@[simp] theorem State.arrive_heart (t : Time) : (s.arrive t).heart = s.heart := State.heart_of_same (by simp) (by simp) (by simp)

@[simp] theorem State.arriveOpt_heart (t : Option Time) : (s.arriveOpt t).heart = s.heart :=
  State.heart_of_same (by simp) (by simp) (by simp)

@[simp] theorem State.startFlash_heart : s.startFlash.heart = s.heart := State.heart_of_same (by simp) (by simp) (by simp)

@[simp] theorem State.beginOp_heart (st : StoreState) (o : OpInHand) (p : Option Phase) : (s.beginOp st o p).heart = s.heart := by
  simp [State.beginOp]

@[simp] theorem State.setSlot_heart (n : Nat) (e : SlotEntry) : (s.setSlot n e).heart = s.heart := rfl

@[simp] theorem State.endOp_heart (o : OpInHand) (r : OpOutcome) : (s.endOp o r).heart = s.heart := by simp [State.endOp]

@[simp] theorem State.failWrite_heart (o : OpInHand) (r : Reason) (e : SlotEntry) : (s.failWrite o r e).heart = s.heart := by
  simp [State.failWrite]

@[simp] theorem State.failRead_heart (o : OpInHand) (r : Reason) (l : List Byte) : (s.failRead o r l).heart = s.heart := by
  simp [State.failRead]

@[simp] theorem State.failTimeout_heart (o : OpInHand) : (s.failTimeout o).heart = s.heart := by simp [State.failTimeout]

@[simp] theorem State.programPage_heart (n p : Nat) : (s.programPage n p).heart = s.heart := rfl

@[simp] theorem State.storeErased_heart (b : Byte) (l : List Byte) : (s.storeErased b l).heart = s.heart := by
  unfold State.storeErased; (repeat' split) <;> simp

@[simp] theorem State.storeEraseTimeout_heart : s.storeEraseTimeout.heart = s.heart := by
  unfold State.storeEraseTimeout; (repeat' split) <;> simp

@[simp] theorem State.pageProgrammed_heart (b : Byte) (l : List Byte) : (s.pageProgrammed b l).heart = s.heart := by
  unfold State.pageProgrammed; (repeat' split) <;> simp

@[simp] theorem State.pageTimeout_heart : s.pageTimeout.heart = s.heart := by
  unfold State.pageTimeout; (repeat' split) <;> simp

@[simp] theorem State.verifySector_heart (l : List Byte) : (s.verifySector l).heart = s.heart := by
  unfold State.verifySector; (repeat' split) <;> simp

@[simp] theorem State.slotErased_heart (b : Byte) (l : List Byte) : (s.slotErased b l).heart = s.heart := by
  unfold State.slotErased; (repeat' split) <;> simp

@[simp] theorem State.slotEraseTimeout_heart : s.slotEraseTimeout.heart = s.heart := by
  unfold State.slotEraseTimeout; (repeat' split) <;> simp

@[simp] theorem State.beginStore_heart (n : Nat) (l : Option Text) (c : Categories) : (s.beginStore n l c).heart = s.heart := by
  simp [State.beginStore]

@[simp] theorem State.detectTimeout_heart : s.detectTimeout.heart = s.heart := by
  unfold State.detectTimeout; (repeat' split) <;> simp

theorem State.readAllSlots_heart (l : List Nat) (s : State) :
    (l.foldl (fun s slot => s.issueFlash (.read (slotAddress slot))) s).heart = s.heart := by
  induction l generalizing s with
  | nil => rfl
  | cons a l ih => rw [List.foldl_cons, ih]; simp

@[simp] theorem State.detectFlash_heart (a b c : Byte) : (s.detectFlash a b c).heart = s.heart := by
  unfold State.detectFlash; dsimp only; (repeat' split) <;> simp [State.readAllSlots_heart]

@[simp] theorem State.startUpFails_heart (r : Reason) : (s.startUpFails r).heart = s.heart := by simp [State.startUpFails]

@[simp] theorem State.scanSlots_heart (l : List (List Byte)) : (s.scanSlots l).heart = s.heart := by
  unfold State.scanSlots; dsimp only; (repeat' split) <;> simp

@[simp] theorem State.flashReady_heart : s.flashReady.heart = s.heart := by
  unfold State.flashReady; split <;> simp

@[simp] theorem State.respond_heart (k : Byte) (r : Reply) : (s.respond k r).heart = s.heart := rfl

@[simp] theorem State.takeFrame_heart (l : List Byte) : (s.takeFrame l).heart = s.heart :=
  State.heart_of_same (by simp) (by simp) (by simp)

@[simp] theorem State.takeHeld_heart : s.takeHeld.heart = s.heart := State.heart_of_same (by simp) (by simp) (by simp)

@[simp] theorem State.answer_heart (k : Byte) (r : Reply) : (s.answer k r).heart = s.heart := by simp [State.answer]

@[simp] theorem State.writePeriod_heart (l : List Byte) : (s.writePeriod l).heart = s.heart :=
  State.heart_of_same (by simp) (by simp) (by simp)

@[simp] theorem State.keyScan_heart (keys : BitVec 40) (pushes : BitVec 12) : (s.keyScan keys pushes).heart = s.heart :=
  State.heart_of_same (by simp) (by simp) (by simp)

@[simp] theorem State.knobSample_heart (a b : BitVec 12) : (s.knobSample a b).heart = s.heart :=
  State.heart_of_same (by simp) (by simp) (by simp)

@[simp] theorem State.lampPeriod_heart (opens : BitVec 24) : (s.lampPeriod opens).heart = s.heart :=
  State.heart_of_same (by simp) (by simp) (by simp)

@[simp] theorem State.blinkPhase_heart (l : Fin 24) : (s.blinkPhase l).heart = s.heart :=
  State.heart_of_same (by simp) (by simp) (by simp)

@[simp] theorem State.flashPhase_heart : s.flashPhase.heart = s.heart := State.heart_of_same (by simp) (by simp) (by simp)

@[simp] theorem State.takeReduceData_heart (f l a b : Nat) : (s.takeReduceData f l a b).heart = s.heart := by
  refine State.heart_of_same (by simp) (by simp) ?_
  unfold State.takeReduceData
  dsimp only
  (repeat' split) <;> simp

@[simp] theorem State.queryDue_heart : s.queryDue.heart = s.heart := State.heart_of_same (by simp) (by simp) (by simp)

@[simp] theorem State.hearingLate_heart : s.hearingLate.heart = s.heart := State.heart_of_same (by simp) (by simp) (by simp)

@[simp] theorem State.expireAutoTimer_heart : s.expireAutoTimer.heart = s.heart := by
  unfold State.expireAutoTimer
  (repeat' split) <;> simp [State.heart]

@[simp] theorem forceRequest_heart (body : List Byte) : (forceRequest body s).1.heart = s.heart := by
  unfold forceRequest; split <;> simp

@[simp] theorem storeRequest_heart (body : List Byte) : (storeRequest body s).1.heart = s.heart := by
  unfold storeRequest; dsimp only; (repeat' split) <;> simp

@[simp] theorem recallRequest_heart (body : List Byte) : (recallRequest body s).1.heart = s.heart := by
  unfold recallRequest; (repeat' split) <;> simp

@[simp] theorem eraseRequest_heart (body : List Byte) : (eraseRequest body s).1.heart = s.heart := by
  unfold eraseRequest; (repeat' split) <;> simp

@[simp] theorem State.setRepeat_heart (k : Fin 40) (t : Option Time) : (s.setRepeat k t).heart = s.heart := rfl

/-! ## A property that every part of every command keeps -/

/-- A property that the starting states have and that the writers of the Setting Table, the Planner and the bank table keep: application
events, COLLECT, the writers of the intents, and the Run Controller with its STATUS fields. -/
structure Kept (P : State → Prop) : Prop where
  start : ∀ (chsel : Bool) (t : State), t.heart = (State.start (buildOf chsel)).heart → P t
  event : ∀ (s : State) (o : Owner) (d : Draft), d.lawful s.table → P s → P (s.commit o d)
  collect : ∀ s : State, P s → P { s with table := s.table.collected }
  intents : ∀ (s : State) (l : List (RecKey × Intent)), P s → P { s with table := { s.table with intents := l } }
  control : ∀ s t : State, t.table.settings = s.table.settings → t.planner = s.planner → (s.banksAgree → t.banksAgree) → P s → P t

section
variable {P : State → Prop} (hP : Kept P)
include hP

theorem Kept.quiet {s t : State} (hs : P s) (h : t.heart = s.heart) : P t := by
  simp only [State.heart, Prod.mk.injEq] at h
  obtain ⟨hset, hacq, honline, hplan, hbanks⟩ := h
  exact hP.control s t hset hplan (fun ha => ha.congr hbanks (by rw [hacq]) (by rw [hacq]) honline) hs

theorem Kept.factoryDefaults {s : State} (hs : P s) : P s.factoryDefaults :=
  hP.event s .defaults (factoryDraft s.table) (factoryDraft_lawful _) hs

theorem Kept.takeDefaults {s : State} (hs : P s) : P s.takeDefaults.1 := by
  have hnow : P s.defaultsNow.1 := by
    unfold State.defaultsNow
    dsimp only
    exact hP.factoryDefaults hs
  unfold State.takeDefaults
  split
  · exact hs
  · exact hnow
  · split
    · exact hP.quiet hs (by simp)
    · exact hnow
  all_goals
    split
    · exact hs
    · exact hnow

theorem Kept.removeIntent {s : State} (k : RecKey) (hs : P s) : P (s.removeIntent k) := hP.intents s _ hs

/-! ### The requests -/

theorem Kept.answerRequest {r : Req} {block : List Byte → State → State × Reply} {s : State} (hs : P s)
    (h : ∀ body, P (block body s).1) : P (s.answerRequest r block) := by
  unfold State.answerRequest
  split
  · rename_i f _
    split
    · exact hP.quiet (h f.body) (by simp)
    · exact hs
  · exact hs

theorem Kept.answerSub {r : Req} {sub : Byte} {block : List Byte → State → State × Reply} {s : State} (hs : P s)
    (h : ∀ body, P (block body s).1) : P (s.answerSub r sub block) := by
  unfold State.answerSub
  split
  · rename_i f _
    split
    · exact hP.quiet (h f.body.tail) (by simp)
    · exact hs
  · exact hs

theorem Kept.amendRecord {s : State} (hs : P s) (k : RecKey) (items : Items) : P (Machine.amendRecord k items s).1 := by
  unfold Machine.amendRecord
  dsimp only
  exact hP.event s .link (Draft.of (applyRecord s.table k items).1) (Draft.of_lawful (by simp) (by simp)) hs

theorem Kept.createRecord {s : State} (hs : P s) (k : RecKey) (items : Items) (hk : k.cls.dynamic = true) :
    P (Machine.createRecord k items s).1 := by
  unfold Machine.createRecord
  dsimp only
  exact hP.event s .link { table := (applyRecord (s.table.addRecord k) k items).1, created := [k], retired := [] }
    (createDraft_lawful _ _ _ hk) hs

theorem Kept.amend {s : State} (hs : P s) (body : List Byte) : P (amendRequest body s).1 := by
  unfold amendRequest
  split
  · exact hs
  · split
    · exact hs
    · dsimp only
      split
      · exact hs
      · split
        · exact hs
        · exact hP.amendRecord hs _ _

theorem Kept.create {s : State} (hs : P s) (body : List Byte) : P (createRequest body s).1 := by
  unfold createRequest
  dsimp only
  split
  · exact hs
  · split
    · exact hs
    · split
      · exact hs
      · split
        · exact hs
        · split
          · exact hs
          · rename_i hdyn
            split
            · exact hs
            · split
              · exact hs
              · exact hP.createRecord hs _ _ (by simpa using hdyn)

theorem Kept.retire {s : State} (hs : P s) (body : List Byte) : P (retireRequest body s).1 := by
  unfold retireRequest
  split
  · exact hs
  · split
    · rename_i k _ _
      dsimp only
      exact hP.event s .link (retireDraft s.table k) (retireDraft_lawful _ _) hs
    · exact hs

theorem Kept.collectList {s : State} (hs : P s) (body : List Byte) : P (collectRequest body s).1 := by
  unfold collectRequest
  split
  · exact hP.collect s hs
  · exact hs

theorem Kept.intentDrop {s : State} (hs : P s) (body : List Byte) : P (intentDropRequest body s).1 := by
  unfold intentDropRequest
  split
  · exact hs
  · exact hP.removeIntent _ hs

theorem Kept.intentAccept {s : State} (hs : P s) (body : List Byte) : P (intentAcceptRequest body s).1 := by
  unfold intentAcceptRequest
  split
  · exact hs
  · rename_i p _
    have hdropped : P (s.removeIntent p.1) := hP.removeIntent _ hs
    unfold acceptIntent
    dsimp only
    split
    · exact hP.quiet hdropped (by simp)
    · split
      · exact hs
      · exact hP.takeDefaults hdropped
    · exact hP.event (s.removeIntent p.1) .panel (Draft.of (intentWrite (s.removeIntent p.1).table p.1 p.2).1)
        (Draft.of_lawful (by simp) (by simp)) hdropped

theorem Kept.defaults {s : State} (hs : P s) (body : List Byte) : P (defaultsRequest body s).1 := by
  unfold defaultsRequest
  split
  · exact hP.takeDefaults hs
  · exact hs

/-! ### The panel -/

theorem Kept.panelWrite {s : State} (r : Ref) (v : Option Value) (hs : P s) : P (s.panelEvent (panelWrite s.table r v)) :=
  hP.event s .panel (Draft.of (Machine.panelWrite s.table r v).1) (Draft.of_lawful (by simp) (by simp)) hs

theorem Kept.refuse {s : State} (c : Control) (k : ActionKind) (r : Ref) (up : Bool) (arg : Option Value) (hs : P s) :
    P (s.refuse c k r up arg) :=
  hP.quiet (hP.intents s (setKey r.key (intentAfter (findKey r.key s.table.intents) c k r.field up arg) s.table.intents) hs)
    (by simp [State.refuse])

theorem Kept.doPress {s : State} (key : Fin 40) (a : KeyAction) (r : Ref) (arg : Option Value) (hs : P s) :
    P (s.doPress key a r arg) := by
  unfold State.doPress
  dsimp only
  split
  · split <;> exact hP.quiet hs (by simp)
  · split
    · exact hP.quiet (hP.takeDefaults hs) (by simp)
    · exact hP.takeDefaults hs
  all_goals exact hP.panelWrite _ _ hs

theorem Kept.takeAction {s : State} (p : PanelAction) (hs : P s) : P (s.takeAction p) := by
  cases p with
  | press key a r arg =>
    simp only [State.takeAction]
    (repeat' split)
    · exact hs
    · exact hP.doPress key a r arg hs
    · exact hP.refuse _ _ _ _ _ hs
  | detent k r d mult =>
    simp only [State.takeAction, State.refuseDetent, detentWrite]
    (repeat' split)
    · exact hs
    · exact hP.panelWrite _ _ hs
    · exact hP.refuse _ _ _ _ _ hs
    · exact hs
  | push k r =>
    simp only [State.takeAction]
    (repeat' split)
    · exact hs
    · exact hP.panelWrite _ _ hs
    · exact hP.refuse _ _ _ _ _ hs

theorem Kept.takeWaiting {s : State} (p : PanelAction → Bool) (hs : P s) : P (s.takeWaiting p) := by
  unfold State.takeWaiting
  split
  · exact hP.takeAction _ (hP.quiet hs rfl)
  · exact hs

theorem Kept.repeatPress {s : State} (key : Fin 40) (b : Keybind) (hs : P s) : P (s.repeatPress key b) := by
  have hset (t : Option Time) : P (s.setRepeat key t) := hP.quiet hs (by simp)
  unfold State.repeatPress
  dsimp only
  split
  · exact hset _
  · split
    · exact hset _
    · split
      · exact hset _
      · exact hP.takeWaiting _ (hP.quiet hs rfl)

theorem Kept.repeatExpiry {s : State} (key : Fin 40) (hs : P s) : P (s.repeatExpiry key) := by
  unfold State.repeatExpiry
  split
  · split
    · split
      · exact hP.repeatPress key _ (hP.quiet hs (by simp))
      · exact hs
    · exact hs
  · exact hs

/-! ### The waiting events and the recalls -/

theorem Kept.takeOwnerRun {s : State} (hs : P s) : P s.takeOwnerRun := by
  unfold State.takeOwnerRun
  dsimp only
  (repeat' split)
  · exact hs
  · exact hP.event _ _ _ (runStateDraft_lawful _ _) (hP.quiet hs rfl)
  · exact hP.quiet hs rfl

theorem Kept.takeOwnerFault {s : State} (hs : P s) : P s.takeOwnerFault := by
  unfold State.takeOwnerFault
  split
  · exact hs
  · exact hP.event _ _ _ (runStateDraft_lawful _ _) (hP.quiet hs rfl)

theorem Kept.defaultsInstead {s : State} (o : OpInHand) (hs : P s) : P (s.defaultsInstead o) := by
  unfold State.defaultsInstead
  split
  · exact hP.factoryDefaults hs
  · exact hs

theorem Kept.recallSector {s : State} (sector : List Byte) (hs : P s) : P (s.recallSector sector) := by
  unfold State.recallSector
  dsimp only
  split
  · split
    · split
      · exact hP.quiet hs (by simp)
      · exact hP.defaultsInstead _ (hP.quiet hs (by simp))
    · exact hs
  · exact hs

theorem Kept.recallTimeout {s : State} (hs : P s) : P s.recallTimeout := by
  unfold State.recallTimeout
  split
  · split
    · exact hP.defaultsInstead _ (hP.quiet hs (by simp))
    · exact hs
  · exact hs

theorem Kept.applyImage {s : State} (hs : P s) : P s.applyImage := by
  unfold State.applyImage
  split
  · split
    · split
      · rename_i o _ _ _ i _
        exact hP.quiet (hP.event s o.op.owner (recallDraft s.table i o.mask) (recallDraft_lawful _ _ _) hs) (by simp)
      · exact hs
    · exact hs
  · exact hs

end

/-! ### The Capture Port's messages -/

/-- A property that each message a command takes keeps is kept by the command. -/
theorem State.takeMessage_keeps {P : State → Prop} {s : State} {f : CaptureMsg → State → State} (msg : List Byte) (hs : P s)
    (h : ∀ m, P (f m s)) : P (s.takeMessage f msg) := by
  unfold State.takeMessage
  split
  · exact h _
  · exact hs

/-- The bank of a notice that is taken is FILLING (R83). -/
theorem State.noticeBank_filling {s : State} {n : Nat} {x : Bank} (h : s.noticeBank n = some x) :
    (s.run.banks.get x).state = .filling := by
  unfold State.noticeBank at h
  dsimp only at h
  (repeat' split at h) <;> simp_all

theorem State.onNotice_keeps {P : State → Prop} {s : State} {f : Bank → State → State} (n : Nat) (hs : P s)
    (h : ∀ x, (s.run.banks.get x).state = .filling → P (f x s)) : P (s.onNotice n f) := by
  unfold State.onNotice
  split
  · rename_i x hx
    exact h x (State.noticeBank_filling hx)
  · exact hs

section
variable {P : State → Prop} (hP : Kept P)
include hP

theorem Kept.ack {s : State} (hs : P s) (m : CaptureMsg) : P (onAck m s) := by
  cases m
  case ack => exact hP.control s _ (by simp [onAck]) (by simp [onAck]) State.takeAck_banksAgree hs
  all_goals exact hs

theorem Kept.reduceData {s : State} (hs : P s) (m : CaptureMsg) : P (onReduceData m s) := by
  cases m
  case reduceData => exact hP.quiet hs (by simp [onReduceData])
  all_goals exact hs

theorem Kept.hello {s : State} (hs : P s) (m : CaptureMsg) : P (onHello m s) := by
  cases m
  case hello => exact hP.control s _ (by simp [onHello]) (by simp [onHello]) State.takeHello_banksAgree hs
  all_goals exact hs

theorem Kept.prefilled {s : State} (hs : P s) (m : CaptureMsg) : P (onPrefilled m s) := by
  cases m
  case prefilled n =>
    exact State.onNotice_keeps n hs fun x _ => hP.control s _ (by simp) (by simp) (State.takePrefilled_banksAgree x) hs
  all_goals exact hs

theorem Kept.triggered {s : State} (hs : P s) (m : CaptureMsg) : P (onTriggered m s) := by
  cases m
  case triggered n forced =>
    exact State.onNotice_keeps n hs fun x _ => hP.control s _ (by simp) (by simp) (State.takeTriggered_banksAgree x forced) hs
  all_goals exact hs

theorem Kept.complete {s : State} (hs : P s) (m : CaptureMsg) : P (onComplete m s) := by
  cases m
  case complete n =>
    exact State.onNotice_keeps n hs fun x hx =>
      hP.control s _ (by simp) (by simp) (fun h => State.takeComplete_banksAgree h hx) hs
  all_goals exact hs

theorem Kept.faultNotice {s : State} (hs : P s) (m : CaptureMsg) : P (onFault m s) := by
  cases m
  case fault c =>
    simp only [onFault]
    split
    · exact hP.quiet hs rfl
    · exact hs
  all_goals exact hs

theorem Kept.portDeadline {s : State} (hs : P s) : P s.portDeadline := by
  unfold State.portDeadline
  split
  · rename_i q t _
    exact hP.control (s.arrive t) _ (by simp) (by simp) (State.failPort_banksAgree q) (hP.quiet hs (by simp))
  · exact hs

end

/-! ### The commands -/

theorem State.release_settings (s : State) : s.release.table.settings = s.table.settings := by
  unfold State.release
  split <;> simp

theorem State.release_planner (s : State) : s.release.planner = s.planner := by
  unfold State.release
  split <;> simp

section
variable {P : State → Prop} (hP : Kept P)
include hP

theorem Kept.commandEffect (c : Instr) (s : State) (hs : P s) : P (commandEffect c s) := by
  by_cases hrecall : c = .recall
  · subst hrecall
    exact hP.answerRequest hs fun body => hP.quiet hs (by simp)
  cases c
  case powerOnReset chsel => exact hP.start chsel _ rfl
  case deviceReset chsel => exact hP.start chsel _ rfl
  case resetEnd => exact hP.control s _ s.release_settings s.release_planner State.release_banksAgree hs
  case amend => exact hP.answerRequest hs (hP.amend hs)
  case create => exact hP.answerRequest hs (hP.create hs)
  case retire => exact hP.answerRequest hs (hP.retire hs)
  case collect => exact hP.answerRequest hs (hP.collectList hs)
  case intentAccept => exact hP.answerSub hs (hP.intentAccept hs)
  case intentDrop => exact hP.answerSub hs (hP.intentDrop hs)
  case defaults => exact hP.answerRequest hs (hP.defaults hs)
  case force | store | erase => exact hP.answerRequest hs fun body => hP.quiet hs (by simp)
  case identify | lookup | directory | storageStatus | protect =>
    refine hP.answerRequest hs fun body => hP.quiet hs (State.heart_of_same ?_ ?_ ?_) <;> simp
  case faultsRead | faultsClear | faultsSetup => 
    refine hP.answerSub hs fun body => hP.quiet hs (State.heart_of_same ?_ ?_ ?_) <;> simp
  case pressAction => exact hP.takeWaiting _ hs
  case detent => exact hP.takeWaiting _ hs
  case push => exact hP.takeWaiting _ hs
  case repeatTargetExpiry key => exact hP.repeatExpiry key hs
  case ownerRunEvent => exact hP.takeOwnerRun hs
  case ownerFaultEvent => exact hP.takeOwnerFault hs
  case ack msg => exact State.takeMessage_keeps msg hs (hP.ack hs)
  case reduceData msg => exact State.takeMessage_keeps msg hs (hP.reduceData hs)
  case hello msg => exact State.takeMessage_keeps msg hs (hP.hello hs)
  case prefilled msg => exact State.takeMessage_keeps msg hs (hP.prefilled hs)
  case triggered msg => exact State.takeMessage_keeps msg hs (hP.triggered hs)
  case complete msg => exact State.takeMessage_keeps msg hs (hP.complete hs)
  case faultNotice msg => exact State.takeMessage_keeps msg hs (hP.faultNotice hs)
  case portFailure => exact hP.portDeadline hs
  case frameStart => exact hP.control s _ (by simp [Machine.commandEffect]) (by simp [Machine.commandEffect]) State.frameStartIfDue_banksAgree hs
  case frameEnd => exact hP.control s _ (by simp [Machine.commandEffect]) (by simp [Machine.commandEffect]) State.frameEnd_banksAgree hs
  case verticalBlank =>
    exact hP.control s _ (by simp [Machine.commandEffect]) (by simp [Machine.commandEffect]) State.verticalBlank_banksAgree hs
  case recallRead sector => exact hP.recallSector sector hs
  case recallReadyTimeout => exact hP.recallTimeout hs
  case apply => exact hP.applyImage hs
  case readPeriod n => exact hP.quiet hs rfl
  case backlightPwmPeriod =>
    refine hP.quiet hs (State.heart_of_same ?_ ?_ ?_) <;> simp [Machine.commandEffect, State.backlightDue]
  all_goals first | exact absurd rfl hrecall | exact hP.quiet hs (by simp [Machine.commandEffect])

end

/-- A property of the heart of the state that every writer of it keeps is kept by every step. -/
theorem Kept.step {P : State → Prop} (hP : Kept P) {s t : State} (hs : P s) (h : step s = .next t) : P t :=
  step_keeps (fun _ _ ht hp hr _ _ _ hs => hP.quiet hs (State.heart_of_same ht hp (by rw [hr]))) (hP.commandEffect) hs h

end Sys2Proof.Machine

/-! What an application event alters, and what the Planner and the Run Controller make of it (R4, R65 to R67). -/

namespace Sys2Proof.Machine

/-! ## Altered fields -/

theorem Table.mem_refs {t : Table} {r : Ref} :
    r ∈ t.refs ↔ t.has r.key = true ∧ r.key.inst ∈ r.key.cls.instances ∧ r.field ∈ r.key.cls.fields := by
  have horder : r.key.cls ∈ Cls.order := by cases r.key.cls <;> decide
  obtain ⟨⟨c, n⟩, f⟩ := r
  simp only [Table.refs, Table.keys, Table.keysOf, List.mem_flatMap, List.mem_filter, List.mem_map]
  constructor
  · rintro ⟨k, ⟨c', -, ⟨m, hm, rfl⟩, hk⟩, g, hg, heq⟩
    obtain ⟨⟨rfl, rfl⟩, rfl⟩ : (c' = c ∧ m = n) ∧ g = f := by simpa using heq
    exact ⟨hk, hm, hg⟩
  · rintro ⟨hk, hm, hf⟩
    exact ⟨⟨c, n⟩, ⟨c, horder, ⟨n, hm, rfl⟩, hk⟩, f, hf, rfl⟩

theorem mem_alteredRefs {t : Table} {d : Draft} {r : Ref} :
    r ∈ alteredRefs t d ↔ r ∈ d.table.refs ∧ r.field.stamped = true ∧ r.key ∉ d.created ∧ t.get r ≠ d.table.get r := by
  simp [alteredRefs, and_assoc]

@[simp] theorem Draft.planned_created (t : Table) (d : Draft) : (d.planned t).created = d.created := by
  unfold Draft.planned; split <;> rfl

@[simp] theorem Draft.planned_retired (t : Table) (d : Draft) : (d.planned t).retired = d.retired := by
  unfold Draft.planned; split <;> rfl

@[simp] theorem writeDerived_has (p : Plan) (t : Table) (k : RecKey) : (writeDerived p t).has k = t.has k := rfl

@[simp] theorem writeDerived_refs (p : Plan) (t : Table) : (writeDerived p t).refs = t.refs := rfl

/-- Stage 4 writes DERIVED fields alone. -/
theorem writeDerived_get (p : Plan) (t : Table) {r : Ref} (h : r.field.kind ≠ .derived) : (writeDerived p t).get r = t.get r := by
  obtain ⟨⟨c, n⟩, f⟩ := r
  have hacq : ∀ f : Field, f.kind ≠ .derived → (writeDerived p t).acquire.get f = t.acquire.get f := by
    intro f hf
    cases f <;> first | rfl | exact absurd rfl hf
  unfold Table.get
  rw [hacq f h]
  rfl

/-- Whether an event alters a PLAN field is settled before stage 4. -/
@[simp] theorem planAltered_planned (t : Table) (d : Draft) :
    planAltered (alteredRefs t (d.planned t)) = planAltered (alteredRefs t d) := by
  unfold Draft.planned
  split
  · rw [Bool.eq_iff_iff]
    simp only [planAltered, List.any_eq_true, mem_alteredRefs, writeDerived_refs, beq_iff_eq]
    refine exists_congr fun r => and_congr_left fun hk => ?_
    rw [writeDerived_get _ _ (by rw [hk]; decide)]
  · rfl

theorem Draft.planned_of_no_plan {t : Table} {d : Draft} (h : planAltered (alteredRefs t d) = false) : d.planned t = d := by
  simp [Draft.planned, h]

/-! ## What the Planner reads -/

/-- The fields of a channel that the Planner reads. -/
def Channel.planView (c : Channel) : OnOff × Int × Int × Int × Coupling × Bandwidth :=
  (c.display, c.probe, c.scale, c.offset, c.coupling, c.bandwidth)

/-- The PLAN fields that the Planner reads. -/
def Table.planView (t : Table) : (ChannelName → Option (OnOff × Int × Int × Int × Coupling × Bandwidth)) × Timebase × TrigSource × AcqMode :=
  (fun c => (t.channelOf c).map Channel.planView, { t.timebase with guard := 0 }, t.trigger.source, t.acquire.acqMode)

/-- The LIVE fields. -/
def Table.liveView (t : Table) : Trigger := { t.trigger with source := .ext, guard := 0 }

theorem Table.active_of_planView {t u : Table} (h : t.planView = u.planView) : t.active = u.active := by
  simp only [Table.planView, Prod.mk.injEq] at h
  obtain ⟨hchan, -, hsource, -⟩ := h
  unfold Table.active
  refine List.filter_congr fun c _ => ?_
  have hc := congrFun hchan c
  rw [hsource]
  cases ht : t.channelOf c <;> cases hu : u.channelOf c <;> simp_all [Channel.planView]

theorem planOf_of_planView {t u : Table} (h : t.planView = u.planView) : planOf t = planOf u := by
  have hactive := Table.active_of_planView h
  simp only [Table.planView, Prod.mk.injEq, Timebase.mk.injEq] at h
  obtain ⟨-, ⟨hscale, hpos, hlen, -⟩, -, hmode⟩ := h
  unfold planOf
  rw [hactive, hscale, hpos, hlen, hmode]

theorem frontEndSet_of_planView {t u : Table} (h : t.planView = u.planView) : frontEndSet t = frontEndSet u := by
  have hactive := Table.active_of_planView h
  simp only [Table.planView, Prod.mk.injEq] at h
  obtain ⟨hchan, -⟩ := h
  unfold frontEndSet
  rw [hactive]
  refine List.filterMap_congr fun c _ => ?_
  have hc := congrFun hchan c
  cases ht : t.channelOf c <;> cases hu : u.channelOf c <;> simp_all [Channel.planView, frontEndOf]

theorem trigCodesOf_of_views {t u : Table} (h : t.planView = u.planView) (hlive : t.liveView = u.liveView) :
    trigCodesOf t = trigCodesOf u := by
  simp only [Table.planView, Prod.mk.injEq] at h
  obtain ⟨hchan, -, hsource, -⟩ := h
  simp only [Table.liveView, Trigger.mk.injEq] at hlive
  obtain ⟨-, hslope, hlevel, hcoup, hmode, hhold, -⟩ := hlive
  have hcode : comparatorCode t = comparatorCode u := by
    unfold comparatorCode
    rw [hsource, hlevel]
    split
    · rename_i n _ _ _
      have hn := congrFun hchan n
      cases ht : t.channelOf n <;> cases hu : u.channelOf n <;> simp_all [Channel.planView]
    · rfl
    · rfl
  unfold trigCodesOf
  rw [hcode, hsource, hslope, hcoup, hmode, hhold]

/-! ## What an event that alters no PLAN or no LIVE field leaves -/

theorem enumValue_inj {α : Type} [BEq α] [LawfulBEq α] {l : List α} {x y : α} (hx : x ∈ l) (h : enumValue l x = enumValue l y) :
    x = y := by
  simp only [enumValue, Value.enum.injEq] at h
  exact (List.idxOf_inj hx).1 h

/-- A field of a given kind of a record that is no dynamic one holds its value through an event that alters no field of that kind. -/
theorem get_of_not_altered {t : Table} {d : Draft} {k : FieldKind} (hd : d.lawful t)
    (h : (alteredRefs t d).any (fun r => r.field.kind == k) = false) {r : Ref} (hk : r.field.kind = k) (hstamped : k ≠ .status)
    (hr : r ∈ d.table.refs) (hdyn : r.key.cls.dynamic = false) : t.get r = d.table.get r := by
  by_contra hne
  have hmem : r ∈ alteredRefs t d := by
    refine mem_alteredRefs.2 ⟨hr, ?_, ?_, hne⟩
    · simpa [Field.stamped, hk] using hstamped
    · intro hc
      have := hd.2.2 _ hc
      simp [hdyn] at this
  have := List.any_eq_false.1 h r hmem
  simp [hk] at this

theorem Channel.planView_of_get {x y : Channel}
    (h : ∀ f ∈ [Field.chProbe, .chScale, .chOffset, .chCoupling, .chBandwidth, .chDisplay], x.get f = y.get f) :
    x.planView = y.planView := by
  simp only [List.mem_cons, forall_eq_or_imp, Channel.get, Value.num.injEq, List.not_mem_nil, false_imp_iff, implies_true, and_true] at h
  obtain ⟨hprobe, hscale, hoffset, hcoup, hband, hdisp⟩ := h
  have hcoup := enumValue_inj (by cases x.coupling <;> decide) hcoup
  have hband := enumValue_inj (by cases x.bandwidth <;> decide) hband
  have hdisp := enumValue_inj (by cases x.display <;> decide) hdisp
  simp [Channel.planView, *]

theorem Draft.lawful.channels_length {t : Table} {d : Draft} (hd : d.lawful t) : d.table.channels.length = t.channels.length :=
  congrArg Prod.fst hd.2.1

/-- A draft of one of the fixed records holds the field's value where no field of its kind is altered. -/
theorem channel_planView {t : Table} {d : Draft} (hd : d.lawful t) (h : planAltered (alteredRefs t d) = false) (c : ChannelName) :
    (d.table.channelOf c).map Channel.planView = (t.channelOf c).map Channel.planView := by
  have hlen := hd.channels_length
  have hnum : c.number ≠ 0 ∧ c.number ∈ Cls.channel.instances := by cases c <;> decide
  unfold Table.channelOf nth1
  simp only [hnum.1, if_false]
  by_cases hlt : c.number - 1 < t.channels.length
  · have hlt' : c.number - 1 < d.table.channels.length := by omega
    rw [List.getElem?_eq_getElem hlt, List.getElem?_eq_getElem hlt', Option.map_some, Option.map_some, Option.some_inj]
    refine Channel.planView_of_get fun f hf => ?_
    have hfield : f.kind = .plan ∧ f.cls = .channel ∧ f ∈ Cls.channel.fields := by revert f; decide
    have := get_of_not_altered (r := ⟨⟨.channel, c.number⟩, f⟩) hd h hfield.1 (by decide)
      (Table.mem_refs.2 ⟨by simp [Table.has, nth1, hnum.1, hlt'], hnum.2, hfield.2.2⟩) rfl
    simpa [Table.get, hfield.2.1, nth1, hnum.1, hlt, hlt'] using this.symm
  · rw [List.getElem?_eq_none (by omega), List.getElem?_eq_none (by omega)]

/-- The same for the records that stand alone in their class. -/
theorem single_get_of_not_altered {t : Table} {d : Draft} {k : FieldKind} (hd : d.lawful t)
    (h : (alteredRefs t d).any (fun r => r.field.kind == k) = false) (hstamped : k ≠ .status) (c : Cls) (f : Field)
    (hc : c = .timebase ∨ c = .trigger ∨ c = .acquire) (hf : f ∈ c.fields ∧ f.kind = k) :
    t.get ⟨⟨c, 1⟩, f⟩ = d.table.get ⟨⟨c, 1⟩, f⟩ := by
  refine get_of_not_altered (r := ⟨⟨c, 1⟩, f⟩) hd h hf.2 hstamped (Table.mem_refs.2 ⟨?_, ?_, hf.1⟩) ?_ <;>
    rcases hc with rfl | rfl | rfl <;> simp [Table.has, Cls.instances, Cls.dynamic]

theorem TrigSource.mem_positions (x : TrigSource) : x ∈ TrigSource.positions := by
  cases x with
  | channel n => cases n <;> decide
  | ext => decide
  | line => decide

/-- With no PLAN field altered the Planner reads what it read, and run_state stays. -/
theorem planView_of_no_plan {t : Table} {d : Draft} (hd : d.lawful t) (h : planAltered (alteredRefs t d) = false) :
    d.table.planView = t.planView ∧ d.table.acquire.runState = t.acquire.runState := by
  have hget := single_get_of_not_altered hd h (by decide)
  have hscale := hget .timebase .tbScale (by decide) (by decide)
  have hpos := hget .timebase .tbPosition (by decide) (by decide)
  have hlen := hget .timebase .tbLength (by decide) (by decide)
  have hsource := hget .trigger .trSource (by decide) (by decide)
  have hmode := hget .acquire .acAcqMode (by decide) (by decide)
  have hrun := hget .acquire .acRunState (by decide) (by decide)
  simp only [Table.get, Field.cls, ne_eq, not_true_eq_false, if_false, if_true, Option.some_inj, Timebase.get, Trigger.get, Acquire.get,
    Value.num.injEq] at hscale hpos hlen hsource hmode hrun
  have hsource := enumValue_inj (TrigSource.mem_positions _) hsource
  have hmode := enumValue_inj (by cases t.acquire.acqMode <;> decide) hmode
  have hrun := enumValue_inj (by cases t.acquire.runState <;> decide) hrun
  refine ⟨?_, hrun.symm⟩
  simp only [Table.planView, channel_planView hd h, hscale, hpos, hlen, hsource, hmode]

/-- With no LIVE field altered either, the trigger codes stay. -/
theorem liveView_of_no_live {t : Table} {d : Draft} (hd : d.lawful t) (h : liveAltered (alteredRefs t d) = false) :
    d.table.liveView = t.liveView := by
  have hget := single_get_of_not_altered hd h (by decide)
  have hslope := hget .trigger .trSlope (by decide) (by decide)
  have hlevel := hget .trigger .trLevel (by decide) (by decide)
  have hcoup := hget .trigger .trCoupling (by decide) (by decide)
  have hmode := hget .trigger .trMode (by decide) (by decide)
  have hhold := hget .trigger .trHoldoff (by decide) (by decide)
  simp only [Table.get, Field.cls, ne_eq, not_true_eq_false, if_false, if_true, Option.some_inj, Trigger.get,
    Value.num.injEq] at hslope hlevel hcoup hmode hhold
  have hslope := enumValue_inj (by cases t.trigger.slope <;> decide) hslope
  have hlevel : t.trigger.level = d.table.trigger.level := by
    revert hlevel
    cases t.trigger.level <;> cases d.table.trigger.level <;> simp [ofOptNum]
  have hcoup := enumValue_inj (by cases t.trigger.coupling <;> decide) hcoup
  have hmode := enumValue_inj (by cases t.trigger.mode <;> decide) hmode
  simp only [Table.liveView, hslope, hlevel, hcoup, hmode, hhold]

/-! ## What an event hands over -/

/-- An event that alters, creates or retires something hands its table, with lamps, bindings and repeats settled, to Planner and Run
Controller (R4 stage 8, R66). -/
theorem State.commit_handOver (s : State) (o : Owner) (d : Draft)
    (h : ¬ (alteredRefs s.table (d.planned s.table) = [] ∧ d.created = [] ∧ d.retired = [])) :
    ∃ u : State, (u.table = eventTable o d s.table ∧ u.planner = s.planner ∧ u.run = s.run ∧ u.port = s.port ∧ u.clock = s.clock
        ∧ u.out = s.out)
      ∧ s.commit o d = u.handOver s.table.trigger.mode (alteredRefs s.table (d.planned s.table)) := by
  have h' : ((alteredRefs s.table (d.planned s.table)).isEmpty && d.created.isEmpty && d.retired.isEmpty) = false := by
    rw [Bool.eq_false_iff]
    intro hc
    exact h (by simpa [and_assoc] using hc)
  unfold State.commit eventTable
  simp only [h', Bool.false_eq_true, if_false, State.notify]
  refine ⟨_, ⟨?_, ?_, ?_, ?_, ?_, ?_⟩, rfl⟩ <;> split <;> simp

/-- The Planner reads the records alone. -/
theorem plannerOf_records (t : Table) (c : Stamp) (st : List (RecKey × Stamp)) (ch re : List RecKey) (i : List (RecKey × Intent)) :
    plannerOf { t with counter := c, stamps := st, changeSet := ch, retired := re, intents := i } = plannerOf t := rfl

/-- Stages 4 to 7 on the records: those of the draft, with the DERIVED fields where a PLAN field is altered. -/
theorem eventTable_acquire (o : Owner) (d : Draft) (t : Table)
    (h : ¬ (alteredRefs t (d.planned t) = [] ∧ d.created = [] ∧ d.retired = [])) :
    (eventTable o d t).acquire = (d.planned t).table.acquire ∧ (eventTable o d t).system = (d.planned t).table.system
      ∧ plannerOf (eventTable o d t) = plannerOf (d.planned t).table
      ∧ (eventTable o d t).channels = (d.planned t).table.channels := by
  rw [eventTable_records o d t h]
  exact ⟨rfl, rfl, plannerOf_records _ _ _ _ _ _, rfl⟩

theorem Draft.planned_runState (t : Table) (d : Draft) : (d.planned t).table.acquire.runState = d.table.acquire.runState := by
  unfold Draft.planned; split <;> rfl

/-! ## The three invariants kept -/

/-- Stages 5 and 6: every record with an altered stamped field and every one created takes the next stamp and is marked, every other that is
retired loses stamp and mark, and the rest keep theirs (R4, R5, R10 to R12). -/
theorem stampEvent_marks (altered : List Ref) (d : Draft) (k : RecKey) :
    (k ∈ touchedKeys altered d.created → findKey k (stampEvent altered d).stamps = some (nextStamp d.table.counter)
        ∧ k ∈ (stampEvent altered d).changeSet ∧ k ∉ (stampEvent altered d).retired)
    ∧ (k ∉ touchedKeys altered d.created → k ∈ d.retired → findKey k (stampEvent altered d).stamps = none
        ∧ k ∉ (stampEvent altered d).changeSet ∧ k ∈ (stampEvent altered d).retired)
    ∧ (k ∉ touchedKeys altered d.created → k ∉ d.retired → findKey k (stampEvent altered d).stamps = findKey k d.table.stamps
        ∧ (k ∈ (stampEvent altered d).changeSet ↔ k ∈ d.table.changeSet)
        ∧ (k ∈ (stampEvent altered d).retired ↔ k ∈ d.table.retired)) := by
  obtain ⟨hcounter, hretired, hother⟩ := foldl_forget d.retired d.table
  unfold stampEvent
  dsimp only
  split
  · rename_i hempty
    have hnone : touchedKeys altered d.created = [] := by simpa using hempty
    rw [hnone]
    exact ⟨by simp, fun _ hk => ⟨(hretired k hk).1, (hretired k hk).2.1, (hretired k hk).2.2.1⟩,
      fun _ hk => ⟨(hother k hk).1, (hother k hk).2.1, (hother k hk).2.2.1⟩⟩
  · obtain ⟨-, -, htouched, huntouched⟩ := foldl_mark (nextStamp (d.retired.foldl (fun t k => t.forget k) d.table).counter)
      (touchedKeys altered d.created) { (d.retired.foldl (fun t k => t.forget k) d.table) with
        counter := nextStamp (d.retired.foldl (fun t k => t.forget k) d.table).counter }
    rw [hcounter] at *
    refine ⟨htouched k, fun hk hr => ?_, fun hk hr => ?_⟩
    · obtain ⟨hstamp, hchange, hret⟩ := huntouched k hk
      obtain ⟨hstamp', hchange', hret', -⟩ := hretired k hr
      exact ⟨hstamp.trans hstamp', by rwa [hchange], by rwa [hret]⟩
    · obtain ⟨hstamp, hchange, hret⟩ := huntouched k hk
      obtain ⟨hstamp', hchange', hret', -⟩ := hother k hr
      exact ⟨hstamp.trans hstamp', hchange.trans hchange', hret.trans hret'⟩

/-- Stage 7 touches neither counter nor stamps nor marks. -/
theorem dropIntents_ledger (o : Owner) (altered : List Ref) (t : Table) :
    (dropIntents o altered t).counter = t.counter ∧ (dropIntents o altered t).stamps = t.stamps
      ∧ (dropIntents o altered t).changeSet = t.changeSet ∧ (dropIntents o altered t).retired = t.retired := by
  unfold dropIntents
  split <;> simp

/-- An event that does something leaves the table of its stages 4 to 7. -/
theorem eventTable_of_something (o : Owner) (d : Draft) (t : Table)
    (h : ¬ (alteredRefs t (d.planned t) = [] ∧ d.created = [] ∧ d.retired = [])) :
    eventTable o d t = dropIntents o (alteredRefs t (d.planned t)) (stampEvent (alteredRefs t (d.planned t)) (d.planned t)) := by
  unfold eventTable
  dsimp only
  rw [if_neg]
  simpa [and_assoc] using h

theorem eventTable_of_nothing (o : Owner) (d : Draft) (t : Table) (ha : alteredRefs t (d.planned t) = []) (hc : d.created = [])
    (hr : d.retired = []) : eventTable o d t = t := by
  simp [eventTable, ha, hc, hr]

/-! ## The three invariants kept -/

theorem eventTable_disjoint (o : Owner) (d : Draft) (t : Table) (hd : d.table.ledger = t.ledger)
    (h : ∀ k, k ∈ t.changeSet → k ∉ t.retired) (k : RecKey) (hk : k ∈ (eventTable o d t).changeSet) : k ∉ (eventTable o d t).retired := by
  by_cases hnothing : alteredRefs t (d.planned t) = [] ∧ d.created = [] ∧ d.retired = []
  · obtain ⟨ha, hc, hr⟩ := hnothing
    rw [eventTable_of_nothing o d t ha hc hr] at *
    exact h k hk
  · have hp : (d.planned t).table.ledger = t.ledger := by rw [Draft.planned_ledger, hd]
    simp only [Table.ledger, Prod.mk.injEq] at hp
    obtain ⟨-, -, hchange, hretired, -⟩ := hp
    obtain ⟨-, -, hdc, hdr⟩ := dropIntents_ledger o (alteredRefs t (d.planned t)) (stampEvent (alteredRefs t (d.planned t)) (d.planned t))
    rw [eventTable_of_something o d t hnothing, hdr]
    rw [eventTable_of_something o d t hnothing, hdc] at hk
    obtain ⟨htouched, hgone, hleft⟩ := stampEvent_marks (alteredRefs t (d.planned t)) (d.planned t) k
    by_cases hkt : k ∈ touchedKeys (alteredRefs t (d.planned t)) (d.planned t).created
    · exact (htouched hkt).2.2
    · by_cases hkr : k ∈ (d.planned t).retired
      · exact absurd hk (hgone hkt hkr).2.1
      · obtain ⟨-, hc, hr⟩ := hleft hkt hkr
        rw [hr, hretired]
        exact h k (by rwa [hc, hchange] at hk)

theorem Table.sets_of_settings {t u : Table} (h : t.settings = u.settings) : t.changeSet = u.changeSet ∧ t.retired = u.retired := by
  have hchange := congrArg Table.changeSet h
  have hretired := congrArg Table.retired h
  exact ⟨hchange, hretired⟩

theorem State.setsDisjoint_of_settings {s t : State} (h : t.table.settings = s.table.settings) (hs : s.setsDisjoint) :
    t.setsDisjoint := by
  obtain ⟨hchange, hretired⟩ := Table.sets_of_settings h
  unfold State.setsDisjoint
  rw [hchange, hretired]
  exact hs

/-- R11 is kept: retirements and marks move a key from one set to the other. -/
theorem setsDisjoint_kept : Kept State.setsDisjoint where
  start chsel t h := by
    simp only [State.heart, Prod.mk.injEq] at h
    obtain ⟨hset, -⟩ := h
    obtain ⟨-, hretired⟩ := Table.sets_of_settings hset
    have hnone : (State.start (buildOf chsel)).table.retired = [] := rfl
    simp [State.setsDisjoint, hretired, hnone]
  event s o d hd hs := by
    obtain ⟨hchange, hretired⟩ := Table.sets_of_settings (s.commit_settings o d)
    unfold State.setsDisjoint
    rw [hchange, hretired]
    exact eventTable_disjoint o d s.table hd.1 hs
  collect s hs := by simp [State.setsDisjoint, Table.collected]
  intents s l hs := hs
  control s t hset _ _ hs := State.setsDisjoint_of_settings hset hs

/-- A trigger update moves the queue and the auto timer alone (R91). -/
theorem State.triggerUpdate_banks (before : TrigMode) (s : State) :
    (s.triggerUpdate before).run.banks = s.run.banks ∧ (s.triggerUpdate before).table = s.table := by
  unfold State.triggerUpdate
  dsimp only
  (repeat' split) <;> exact ⟨rfl, rfl⟩

/-- What stage 8 hands over agrees again, whatever run_state an event that alters PLAN fields leaves (R66, R89). -/
theorem State.handOver_banksAgree {s : State} (before : TrigMode) (altered : List Ref) (hstep : s.inStep)
    (hrun : planAltered altered = false → s.banksAgree) : (s.handOver before altered).banksAgree := by
  unfold State.handOver
  split
  · exact State.pump_banksAgree (State.handover_banksAgree hstep)
  · rename_i hplan
    have hs := hrun (by simpa using hplan)
    split
    · apply State.pump_banksAgree
      obtain ⟨hbanks, htable⟩ := State.triggerUpdate_banks before { s with planner := { s.planner with trig := trigCodesOf s.table } }
      exact hs.congr hbanks (by rw [htable]) (by rw [htable]) (by rw [htable])
    · exact hs

/-- R79, R80 and R86 are kept: an event that alters run_state alters a PLAN field, and is handed over. -/
theorem banksAgree_kept : Kept State.banksAgree where
  start chsel t h := by
    simp only [State.heart, Prod.mk.injEq] at h
    obtain ⟨-, hacq, honline, -, hbanks⟩ := h
    have hstart : (State.start (buildOf chsel)).banksAgree := by
      simp [State.banksAgree, Banks.atMostOne, Banks.find, State.start, startRun, startTable, startRecords, factoryAcquire, startSystem,
        writeDerived, AcqState.inFlight]
    exact hstart.congr hbanks (by rw [hacq]) (by rw [hacq]) honline
  event s o d hd hs := by
    by_cases hnothing : alteredRefs s.table (d.planned s.table) = [] ∧ d.created = [] ∧ d.retired = []
    · obtain ⟨ha, hc, hr⟩ := hnothing
      rw [s.commit_of_nothing o d ha hc hr]
      exact hs
    · obtain ⟨u, ⟨htable, -, hrun, -⟩, hcommit⟩ := s.commit_handOver o d hnothing
      obtain ⟨hacq, hsys, -, -⟩ := eventTable_acquire o d s.table hnothing
      have hledger : (d.planned s.table).table.ledger = s.table.ledger := by rw [Draft.planned_ledger, hd.1]
      simp only [Table.ledger, Prod.mk.injEq] at hledger
      obtain ⟨-, -, -, -, -, hsystem, hacqState, -⟩ := hledger
      have hacqState : u.table.acquire.acqState = s.table.acquire.acqState := by rw [htable, hacq, hacqState]
      have honline : u.table.system.captureOnline = s.table.system.captureOnline := by rw [htable, hsys, hsystem]
      rw [hcommit]
      refine State.handOver_banksAgree _ _ ?_ fun hplan => ?_
      · unfold State.inStep
        rw [hrun, hacqState, honline]
        exact hs.inStep
      · rw [planAltered_planned] at hplan
        obtain ⟨-, hrunState⟩ := planView_of_no_plan hd hplan
        exact hs.congr (by rw [hrun]) hacqState (by rw [htable, hacq, Draft.planned_runState, hrunState]) honline
  collect s hs := hs
  intents s l hs := hs
  control s t _ _ hagree hs := hagree hs

/-! ## The Planner -/

/-- The skeleton of a table whose DERIVED fields are a plan's. -/
def Plan.skeleton (p : Plan) (t : Table) : Nat × Int × Int × Int × Int × Int :=
  (t.channels.length, p.base, p.interval, p.length, p.pre, p.delay)

theorem writeDerived_eq_self_iff (p : Plan) (t : Table) : writeDerived p t = t ↔ t.skeleton = p.skeleton t := by
  constructor
  · intro h
    rw [← h]
    rfl
  · intro h
    simp only [Table.skeleton, Plan.skeleton, Prod.mk.injEq, true_and] at h
    obtain ⟨hbase, hint, hlen, hpre, hdelay⟩ := h
    unfold writeDerived
    rw [← hbase, ← hint, ← hlen, ← hpre, ← hdelay]

theorem State.plannerAgrees_iff (s : State) :
    s.plannerAgrees ↔ s.planner = plannerOf s.table ∧ s.table.skeleton = (planOf s.table).skeleton s.table := by
  rw [State.plannerAgrees, writeDerived_eq_self_iff]

theorem Table.views_of_settings {t u : Table} (h : t.settings = u.settings) :
    plannerOf t = plannerOf u ∧ t.skeleton = u.skeleton ∧ (planOf t).skeleton t = (planOf u).skeleton u := by
  have hplanner := congrArg plannerOf h
  have hskel := congrArg Table.skeleton h
  have hof := congrArg (fun u => (planOf u).skeleton u) h
  exact ⟨hplanner, hskel, hof⟩

/-- The Planner agrees with the table's settings alone (R65). -/
theorem State.plannerAgrees_of_settings {s t : State} (hset : t.table.settings = s.table.settings) (hplan : t.planner = s.planner)
    (hs : s.plannerAgrees) : t.plannerAgrees := by
  rw [State.plannerAgrees_iff] at *
  obtain ⟨hplanner, hskel, hof⟩ := Table.views_of_settings hset
  rw [hplan, hplanner, hskel, hof]
  exact hs

/-- The sets of the Planner after what stage 8 hands over (R66, R67). -/
theorem State.handOver_planner (before : TrigMode) (altered : List Ref) (s : State) :
    (s.handOver before altered).planner =
      if planAltered altered then plannerOf s.table
      else if liveAltered altered then { s.planner with trig := trigCodesOf s.table }
      else s.planner := by
  unfold State.handOver
  split
  · simp
  · split <;> simp

/-- The DERIVED fields after an event are those of the plan of its table (R72). -/
theorem Draft.planned_skeleton {t : Table} {d : Draft} (hd : d.lawful t) (ht : t.skeleton = (planOf t).skeleton t) :
    (d.planned t).table.skeleton = (planOf (d.planned t).table).skeleton (d.planned t).table := by
  by_cases hplan : planAltered (alteredRefs t d)
  · unfold Draft.planned
    rw [if_pos hplan]
    rfl
  · have hplan : planAltered (alteredRefs t d) = false := by simpa using hplan
    rw [Draft.planned_of_no_plan hplan, hd.2.1, ht, planOf_of_planView (planView_of_no_plan hd hplan).1]
    simp [Plan.skeleton, hd.channels_length]

/-- R65 to R77 are kept: only PLAN and LIVE fields are read, and an event that alters one has the sets computed anew. -/
theorem plannerAgrees_kept : Kept State.plannerAgrees where
  start chsel t h := by
    simp only [State.heart, Prod.mk.injEq] at h
    obtain ⟨hset, -, -, hplanner, -⟩ := h
    exact State.plannerAgrees_of_settings hset hplanner ⟨rfl, rfl⟩
  event s o d hd hs := by
    by_cases hnothing : alteredRefs s.table (d.planned s.table) = [] ∧ d.created = [] ∧ d.retired = []
    · obtain ⟨ha, hc, hr⟩ := hnothing
      rw [s.commit_of_nothing o d ha hc hr]
      exact hs
    · obtain ⟨u, ⟨htable, hplanner, -⟩, hcommit⟩ := s.commit_handOver o d hnothing
      obtain ⟨hacq, -, hof, hchan⟩ := eventTable_acquire o d s.table hnothing
      rw [State.plannerAgrees_iff] at *
      obtain ⟨hs, hskel⟩ := hs
      obtain ⟨hviews, hskeleton, hplanSkeleton⟩ := Table.views_of_settings (s.commit_settings o d)
      have hplanOf : planOf (eventTable o d s.table) = planOf (d.planned s.table).table := congrArg Planner.plan hof
      refine ⟨?_, ?_⟩
      · rw [hviews, hcommit, State.handOver_planner, htable, hplanner, planAltered_planned]
        split
        · rfl
        · rename_i hplan
          have hplan : planAltered (alteredRefs s.table d) = false := by simpa using hplan
          have hview := (planView_of_no_plan hd hplan).1
          have htrig : trigCodesOf (eventTable o d s.table) = trigCodesOf d.table := by
            have := congrArg Planner.trig hof
            rwa [Draft.planned_of_no_plan hplan] at this
          rw [hof, htrig, Draft.planned_of_no_plan hplan, hs]
          unfold plannerOf
          rw [planOf_of_planView hview, frontEndSet_of_planView hview]
          split
          · rfl
          · rename_i hlive
            rw [trigCodesOf_of_views hview (liveView_of_no_live hd (by simpa using hlive))]
      · have hplanned := Draft.planned_skeleton hd hskel
        unfold Table.skeleton Plan.skeleton at *
        rw [hskeleton, hplanSkeleton, hacq, hchan, hplanOf]
        exact hplanned
  collect s hs := by
    rw [State.plannerAgrees_iff] at *
    exact hs
  intents s l hs := by
    rw [State.plannerAgrees_iff] at *
    exact hs
  control s t hset hplan _ hs := State.plannerAgrees_of_settings hset hplan hs

/-- Settles O7. -/
theorem everyStepKeepsSetsDisjoint : Obligations.EveryStepKeepsSetsDisjoint :=
  fun _ _ hs h => setsDisjoint_kept.step hs h

/-- Settles O8. -/
theorem everyStepKeepsBanksAgree : Obligations.EveryStepKeepsBanksAgree :=
  ⟨fun _ _ hs h => banksAgree_kept.step hs h, fun _ _ hs h => plannerAgrees_kept.step hs h⟩

end Sys2Proof.Machine

/-! The resets (R14, R19, R20, R167, R174), and the clocks that run by themselves (R61, R115). -/

namespace Sys2Proof.Machine

/-! ## The starting state -/

/-- Settles O9: a starting state has every property that the writers of the table, the Planner and the bank table keep. -/
theorem resetStateIsSafe : Obligations.ResetStateIsSafe :=
  ⟨rfl, nofun, ⟨rfl, rfl⟩, setsDisjoint_kept.start true _ rfl, banksAgree_kept.start true _ rfl, plannerAgrees_kept.start true _ rfl⟩

/-- What POWER_ON_RESET leaves. -/
theorem exec_powerOnReset (chsel : Bool) (s : State) :
    exec (.powerOnReset chsel) s = .next (State.powerOn chsel s.begin).settle := rfl

/-- The table's starting state, record by record (R19). -/
theorem startTable_records (chsel : Bool) :
    (∀ c ∈ (startTable (buildOf chsel)).channels, c.probe = 10 ∧ c.scale = 1000000 ∧ c.offset = 0 ∧ c.fine = false ∧ c.guard = 1
        ∧ c.coupling = .dc ∧ c.bandwidth = .full ∧ c.invert = false ∧ c.label = none)
      ∧ ∀ k ∈ (startTable (buildOf chsel)).keys, (startTable (buildOf chsel)).stampOf k = 1 := by
  cases chsel <;> decide +kernel

/-- Every lamp is on or off as its binding says, with nothing counted (R59). -/
theorem startLamps_states (chsel : Bool) : ∀ l ∈ (startLamps (startTable (buildOf chsel))).entries,
    (l.state = .on ∧ l.bound = .on ∨ l.state = .off ∧ l.bound = .off) ∧ l.opens = 0 ∧ l.phaseEnd = none := by
  cases chsel <;> decide +kernel

/-- No class is set or masked (R174). -/
theorem startFaults_clear : ∀ e ∈ startFaults.entries, e.status = false ∧ e.count = 0 ∧ e.detail = none ∧ e.masked = false := by
  decide

/-- Settles O13: each item is read off the starting state of the build. -/
theorem powerOnResetGivesStartingState : Obligations.PowerOnResetGivesStartingState := by
  intro chsel s
  obtain ⟨hchannels, hstamps⟩ := startTable_records chsel
  have hlamps := startLamps_states chsel
  refine ⟨_, exec_powerOnReset _ s, rfl, rfl, rfl, ?_⟩
  cases chsel
  all_goals
    refine ⟨rfl, rfl, rfl, rfl, hchannels, rfl, rfl, rfl, rfl, rfl, rfl, rfl, rfl, rfl, rfl, rfl, rfl, rfl, hstamps, rfl, rfl, rfl, rfl,
        rfl, rfl, rfl, rfl, rfl, rfl, rfl, hlamps, rfl, rfl, rfl, rfl, rfl, rfl, rfl, rfl, rfl, rfl, rfl, rfl, rfl, rfl, rfl, rfl, rfl,
        rfl, rfl, rfl, rfl, rfl, rfl, rfl, rfl, rfl, rfl, startFaults_clear, rfl⟩

/-- What a device reset keeps of the fault table (R174). -/
theorem Faults.afterDeviceReset_entry (f : Faults) {k : Nat} {e : FaultEntry} (h : f.entries[k]? = some e) (hlen : f.entries.length = 8) :
    f.afterDeviceReset.entries[k]? = some { e with
      masked := false
      severity := if k = FaultClass.captureTimeout.index ∨ k = FaultClass.captureReported.index then .stop else .note } := by
  have hk : k < 8 := by rw [← hlen]; exact (List.getElem?_eq_some_iff.1 h).1
  have hclass : FaultClass.positions[k]? = some FaultClass.positions[k] := List.getElem?_eq_getElem _
  have hsev : ∀ j : Fin 8, defaultSeverity FaultClass.positions[j.val] =
      if j.val = FaultClass.captureTimeout.index ∨ j.val = FaultClass.captureReported.index then .stop else .note := by decide
  have hsev := hsev ⟨k, hk⟩
  simp only at hsev
  simp only [Faults.afterDeviceReset, List.getElem?_map, List.zip, List.getElem?_zipWith, h, hclass, Option.map_some]
  exact congrArg (fun v => some { e with masked := false, severity := v }) hsev

/-- Settles O14. -/
theorem deviceResetKeepsFaultsAndLatch : Obligations.DeviceResetKeepsFaultsAndLatch := by
  intro chsel s hlen
  refine ⟨(State.reboot chsel s.begin).settle, exec_resetRow (c := .deviceReset chsel) rfl s, ?_, rfl, rfl, rfl, ?_, ?_⟩
  · cases chsel <;> exact ⟨rfl, rfl, rfl, rfl, rfl, rfl, rfl, rfl, rfl, rfl⟩
  · show ((s.faults.entries.zip FaultClass.positions).map _).length = 8
    simp [hlen, FaultClass.positions]
  · intro k e h
    exact Faults.afterDeviceReset_entry s.faults h hlen

/-! ## The end of a reset -/

/-- A frame with no bank to show has no traces to draw: it starts, and asks the port for nothing (R105). -/
theorem State.frameStart_of_no_bank {s : State} (hheld : s.run.banks.find .held = none) (hshown : s.run.banks.find .shown = none) :
    s.frameStart = { s with composer := { s.composer with recompose := false }.beginFrame (snapshotOf s.table s.run.banks) } := by
  have hnone : (snapshotOf s.table s.run.banks).shown = none := by simp [snapshotOf, shownBank, hshown]
  unfold State.frameStart
  rw [State.takeBank_of_none _ (by exact hheld)]
  simp [Composer.beginFrame, traceOrder, hnone]

/-- The drawing begun leaves recompose-needed as it was (R105). -/
theorem Composer.beginFrame_recompose (v : View) (c : Composer) : (c.beginFrame v).recompose = c.recompose := by
  unfold Composer.beginFrame Composer.drawBack Composer.clearBack
  dsimp only
  (repeat' split) <;> rfl

/-- Settles O15: with no bank to show the first frame has no traces, and puts nothing out. -/
theorem resetEndStartsThePart : Obligations.ResetEndStartsThePart := by
  intro s hreset hidle hrecompose hheld hshown
  have hrelease : s.begin.release = ({ s.begin with
      inReset := false
      clock := s.clock.released
      port := { s.port with lateAt := some (after s.clock.now 500000), queryAt := some (after s.clock.now 500000) }
      engine := { s.engine with deadline := some (after s.clock.now 2000000) }
      out := { miso := [], capture := [.query], flash := [.status] } } : State).frameStart := by
    unfold State.release State.frameStartIfDue
    rw [if_pos (by exact hreset), if_pos (by exact ⟨hidle, hrecompose⟩)]
    rfl
  refine ⟨s.begin.release.settle, exec_resetRow (c := .resetEnd) rfl s, ?_⟩
  rw [hrelease, State.frameStart_of_no_bank (by exact hheld) (by exact hshown)]
  exact ⟨rfl, rfl, rfl, rfl, rfl, rfl, rfl, rfl, rfl, Composer.beginFrame_recompose _ _, rfl, rfl⟩

/-! ## The clocks that run by themselves -/

/-- Settles O45. -/
theorem flashClockAndBacklightPeriods : Obligations.FlashClockAndBacklightPeriods := by
  intro s hr
  refine ⟨⟨_, exec_of_running hr rfl, ?_, ?_, ?_⟩, ⟨_, exec_of_running hr rfl, ?_, ?_, ?_⟩⟩
  · simp [State.sameBut, commandEffect, State.flashPhase]
  · simp [commandEffect, State.flashPhase]
  · simp [commandEffect, State.flashPhase]
  · simp [State.sameBut, commandEffect, State.backlightDue, State.backlightPeriod]
  · simp [commandEffect, State.backlightDue, State.backlightPeriod, Nat.mul_comm]
  · simp [commandEffect, State.backlightDue]

/-- Settles O17. -/
theorem readPeriodSendsTheBuffer : Obligations.ReadPeriodSendsTheBuffer := by
  intro n s hr
  refine ⟨_, exec_of_running hr rfl, ?_, rfl, rfl, ?_, ?_⟩
  · simp [State.sameBut, commandEffect, State.readPeriod]
  · simp [commandEffect, State.readPeriod]
  · intro k hk
    simp only [commandEffect, State.readPeriod, State.settle, State.begin, List.getElem?_take, hk, if_true, List.getD_eq_getElem?_getD]
    by_cases hlt : k < s.link.response.length
    · rw [List.getElem?_append_left hlt, List.getElem?_eq_getElem hlt, Option.getD_some]
    · rw [List.getElem?_append_right (by omega), List.getElem?_replicate_of_lt (by omega), List.getElem?_eq_none (by omega),
        Option.getD_none]

end Sys2Proof.Machine

/-! What an application event does to the counter, the stamps and the two sets, and what it hands over (R4, R5, R11, R12, R66, R67). -/

namespace Sys2Proof.Machine

/-- Stage 5's counter: it advances once when a record is stamped (R5). -/
theorem stampEvent_counter (altered : List Ref) (d : Draft) :
    (stampEvent altered d).counter =
      if touchedKeys altered d.created = [] then d.table.counter else nextStamp d.table.counter := by
  obtain ⟨hcounter, -⟩ := foldl_forget d.retired d.table
  unfold stampEvent
  dsimp only
  simp only [List.isEmpty_iff]
  split
  · exact hcounter
  · obtain ⟨hmark, -⟩ := foldl_mark (nextStamp (d.retired.foldl (fun t k => t.forget k) d.table).counter)
      (touchedKeys altered d.created) { (d.retired.foldl (fun t k => t.forget k) d.table) with
        counter := nextStamp (d.retired.foldl (fun t k => t.forget k) d.table).counter }
    rw [hmark, hcounter]

/-- What no stage before the fifth writes. -/
theorem Draft.planned_marks (t : Table) (d : Draft) :
    (d.planned t).table.counter = d.table.counter ∧ (d.planned t).table.stamps = d.table.stamps
      ∧ (d.planned t).table.changeSet = d.table.changeSet ∧ (d.planned t).table.retired = d.table.retired := by
  unfold Draft.planned
  split <;> exact ⟨rfl, rfl, rfl, rfl⟩

/-- The counter that an event leaves (R5). -/
theorem eventTable_counter (o : Owner) {d : Draft} {t : Table} (hc : d.table.counter = t.counter) :
    (eventTable o d t).counter =
      if touchedKeys (alteredRefs t (d.planned t)) d.created = [] then t.counter else nextStamp t.counter := by
  by_cases hnothing : alteredRefs t (d.planned t) = [] ∧ d.created = [] ∧ d.retired = []
  · obtain ⟨ha, hcr, hr⟩ := hnothing
    rw [eventTable_of_nothing o d t ha hcr hr, ha, hcr]
    rfl
  · obtain ⟨hcounter, -⟩ := dropIntents_ledger o (alteredRefs t (d.planned t)) (stampEvent (alteredRefs t (d.planned t)) (d.planned t))
    obtain ⟨hplanned, -⟩ := d.planned_marks t
    rw [eventTable_of_something o d t hnothing, hcounter, stampEvent_counter, Draft.planned_created, hplanned, hc]

/-- The stamp and the marks that an event leaves a key (R4, R5, R10 to R12). -/
theorem eventTable_marks (o : Owner) {d : Draft} {t : Table} (hc : d.table.counter = t.counter) (hs : d.table.stamps = t.stamps)
    (hch : d.table.changeSet = t.changeSet) (hre : d.table.retired = t.retired) (k : RecKey) :
    let touched := touchedKeys (alteredRefs t (d.planned t)) d.created
    (k ∈ touched → findKey k (eventTable o d t).stamps = some (nextStamp t.counter) ∧ k ∈ (eventTable o d t).changeSet
        ∧ k ∉ (eventTable o d t).retired)
    ∧ (k ∉ touched → k ∈ d.retired → findKey k (eventTable o d t).stamps = none ∧ k ∉ (eventTable o d t).changeSet
        ∧ k ∈ (eventTable o d t).retired)
    ∧ (k ∉ touched → k ∉ d.retired → findKey k (eventTable o d t).stamps = findKey k t.stamps
        ∧ (k ∈ (eventTable o d t).changeSet ↔ k ∈ t.changeSet) ∧ (k ∈ (eventTable o d t).retired ↔ k ∈ t.retired)) := by
  by_cases hnothing : alteredRefs t (d.planned t) = [] ∧ d.created = [] ∧ d.retired = []
  · obtain ⟨ha, hcr, hr⟩ := hnothing
    rw [eventTable_of_nothing o d t ha hcr hr, ha, hcr, hr]
    simp
  · obtain ⟨-, hstamps, hchange, hretired⟩ :=
      dropIntents_ledger o (alteredRefs t (d.planned t)) (stampEvent (alteredRefs t (d.planned t)) (d.planned t))
    obtain ⟨hplc, hpls, hplch, hplre⟩ := d.planned_marks t
    have hmarks := stampEvent_marks (alteredRefs t (d.planned t)) (d.planned t) k
    rw [Draft.planned_created, Draft.planned_retired, hplc, hpls, hplch, hplre, hc, hs, hch, hre] at hmarks
    rw [eventTable_of_something o d t hnothing, hstamps, hchange, hretired]
    exact hmarks

/-- An event that alters no PLAN and no LIVE field leaves Planner, Run Controller and port alone (R66). -/
theorem State.commit_of_no_handover (s : State) (o : Owner) (d : Draft)
    (hplan : planAltered (alteredRefs s.table (d.planned s.table)) = false)
    (hlive : liveAltered (alteredRefs s.table (d.planned s.table)) = false) :
    (s.commit o d).planner = s.planner ∧ (s.commit o d).run = s.run ∧ (s.commit o d).port = s.port ∧ (s.commit o d).out = s.out := by
  by_cases hnothing : alteredRefs s.table (d.planned s.table) = [] ∧ d.created = [] ∧ d.retired = []
  · obtain ⟨ha, hcr, hr⟩ := hnothing
    rw [s.commit_of_nothing o d ha hcr hr]
    exact ⟨rfl, rfl, rfl, rfl⟩
  · obtain ⟨u, ⟨-, hplanner, hrun, hport, -, hout⟩, hcommit⟩ := s.commit_handOver o d hnothing
    rw [hcommit, State.handOver, hplan, hlive]
    exact ⟨hplanner, hrun, hport, hout⟩

/-- Settles O12. -/
theorem eventsStampAndMark : Obligations.EventsStampAndMark := by
  intro owner d s hc hs hch hre altered e touched
  have htouched : ∀ k, touched k ↔ k ∈ touchedKeys altered d.created := by
    intro k
    simp only [mem_touchedKeys, touched, or_comm]
  have hmarks := eventTable_marks owner hc hs hch hre
  have hcounter := eventTable_counter owner hc
  have hsomething (h : altered ≠ []) := s.commit_handOver owner d fun hn => h hn.1
  refine ⟨s.commit_settings owner d, s.commit_of_nothing owner d, ?_, ?_, ?_, ?_, ?_, ?_, ?_, s.commit_of_no_handover owner d⟩
  · rintro ⟨k, hk⟩
    have hne : touchedKeys altered d.created ≠ [] := List.ne_nil_of_mem ((htouched k).1 hk)
    exact hcounter.trans (if_neg hne)
  · intro hnone
    have hnil : touchedKeys altered d.created = [] := List.eq_nil_iff_forall_not_mem.2 fun k hk => hnone k ((htouched k).2 hk)
    exact hcounter.trans (if_pos hnil)
  · intro k hk
    obtain ⟨hstamp, hchange, hretired⟩ := (hmarks k).1 ((htouched k).1 hk)
    exact ⟨by rw [Table.stampOf, hstamp, Option.getD_some], hchange, hretired⟩
  · exact fun k hk hr => (hmarks k).2.1 (mt (htouched k).2 hk) hr
  · exact fun k hk hr => (hmarks k).2.2 (mt (htouched k).2 hk) hr
  · intro hplan
    obtain ⟨u, ⟨htable, -, hrun, hport, hclock, hout⟩, hcommit⟩ := hsomething (by rintro h; simp [h, planAltered] at hplan)
    refine ⟨{ u with planner := plannerOf u.table }, ⟨htable, by rw [htable], hrun, hport, hclock, hout⟩, ?_⟩
    rw [hcommit, State.handOver, if_pos hplan]
  · intro hplan hlive
    obtain ⟨u, ⟨htable, hplanner, hrun, hport, hclock, hout⟩, hcommit⟩ := hsomething (by rintro h; simp [h, liveAltered] at hlive)
    refine ⟨{ u with planner := { u.planner with trig := trigCodesOf u.table } },
      ⟨htable, by rw [htable, hplanner], hrun, hport, hclock, hout⟩, ?_⟩
    rw [hcommit, State.handOver, if_neg (by simp [altered] at hplan; simp [hplan]), if_pos hlive]

end Sys2Proof.Machine

/-! The Setting Link: what becomes of a request frame, and how every request row answers the request in hand (R158 to R160). -/

namespace Sys2Proof.Machine

/-! ## A frame taken (R158, R159) -/

/-- What taking a frame does, by what it reads as. -/
theorem State.takeFrame_request {bytes : List Byte} {f : Frame} {r : Req} (s : State) (hf : checkFrame bytes = .inr f)
    (hr : Req.ofByte f.kind = some r) (hsub : badSubAction r f.body = false) :
    s.takeFrame bytes = s.onLink fun l => { l with inHand := some f, response := [] } := by
  unfold State.takeFrame
  dsimp only
  rw [hf]
  dsimp only
  rw [hr]
  simp [hsub, State.onLink]

theorem State.takeFrame_refused {bytes : List Byte} {f : Frame} {code : ReplyCode} (s : State) (hf : checkFrame bytes = .inr f)
    (hcode : (Req.ofByte f.kind = none ∧ code = .unknownRequest)
      ∨ ∃ r, Req.ofByte f.kind = some r ∧ badSubAction r f.body = true ∧ code = .badValue) :
    s.takeFrame bytes = s.respond f.kind (bare code) := by
  unfold State.takeFrame
  dsimp only
  rw [hf]
  dsimp only
  rcases hcode with ⟨hnone, rfl⟩ | ⟨r, hr, hsub, rfl⟩
  · rw [hnone]
    rfl
  · rw [hr]
    simp [hsub, State.respond, State.onLink]

theorem State.takeFrame_error {bytes : List Byte} {cause : FrameFault} (s : State) (hf : checkFrame bytes = .inl cause) :
    s.takeFrame bytes = (s.respond (bytes.getD 1 0) (bare .frameError)).report .linkFrame (some (.frame cause)) := by
  unfold State.takeFrame
  dsimp only
  rw [hf]
  rfl

/-- A write period that is no empty one shifts out zeros, and its frame is taken, held or discarded (R157, R159). -/
theorem State.writePeriod_of_bytes {bytes : List Byte} (s : State) (hne : bytes ≠ []) :
    s.writePeriod bytes =
      (match s.link.inHand, s.link.held with
       | none, _ => State.takeFrame bytes
       | some _, none => State.onLink fun l => { l with held := some bytes }
       | some _, some _ => State.report .linkFrame (some (.frame .discarded)))
        { s with out := { s.out with miso := List.replicate bytes.length 0 } } := by
  unfold State.writePeriod
  dsimp only
  rw [if_neg (by simpa using hne)]
  split <;> simp_all

/-- The two commands that take a frame take it from a state that agrees with the one before but for the link's held frame and the outputs. -/
theorem exec_takes_frame {bytes : List Byte} {c : Instr} {s : State} (hr : s.inReset = false) (hne : bytes ≠ [])
    (hc : (c = .writePeriod bytes ∧ s.link.inHand = none ∧ s.link.held = none ∧ c.wellFormed = true)
      ∨ (c = .heldRequestTaken ∧ s.link.inHand = none ∧ s.link.held = some bytes)) :
    ∃ o : Outputs, exec c s = .next (({ s with link := { s.link with held := none }, out := o } : State).takeFrame bytes).settle := by
  rcases hc with ⟨rfl, hhand, hheld, hw⟩ | ⟨rfl, hhand, hheld⟩
  · refine ⟨{ noOutputs with miso := List.replicate bytes.length 0 }, ?_⟩
    rw [exec_of_running hr hw, commandEffect, State.writePeriod_of_bytes _ hne]
    have hlink : ({ s.link with held := none } : Link) = s.link := by rw [← hheld]
    rw [hlink]
    simp [hhand, State.begin]
  · refine ⟨noOutputs, ?_⟩
    rw [exec_of_running hr rfl, commandEffect, State.takeHeld]
    simp [hhand, hheld, State.begin, State.onLink]

theorem State.respond_answered (kind : Byte) (r : Reply) {s : State} (h : s.link.held = none) : (s.respond kind r).settle.answered kind r :=
  ⟨rfl, h, rfl⟩

/-- Settles O16. -/
theorem framesTakenHeldOrDiscarded : Obligations.FramesTakenHeldOrDiscarded := by
  intro bytes s hr hne
  refine ⟨fun c hc => ?_, fun f hw hhand hheld => ?_, fun f h hw hhand hheld => ?_⟩
  · obtain ⟨o, hexec⟩ := exec_takes_frame hr hne hc
    refine ⟨_, hexec, ?_, ?_, ?_, ?_, ?_⟩
    · exact State.takeFrame_held _ _
    · intro f r hf hreq hsub
      rw [State.takeFrame_request _ hf hreq hsub]
      exact ⟨rfl, rfl, by simp [State.sameBut]⟩
    · intro f hf hreq
      rw [State.takeFrame_refused _ hf (.inl ⟨hreq, rfl⟩)]
      exact ⟨State.respond_answered _ _ rfl, by simp [State.sameBut]⟩
    · intro f r hf hreq hsub
      rw [State.takeFrame_refused _ hf (.inr ⟨r, hreq, hsub, rfl⟩)]
      exact ⟨State.respond_answered _ _ rfl, by simp [State.sameBut]⟩
    · intro cause hf
      rw [State.takeFrame_error _ hf]
      exact ⟨⟨rfl, rfl, rfl⟩, by simp [State.sameBut], State.report_reported _ _ _⟩
  · refine ⟨_, exec_of_running hr hw, ?_, ?_⟩ <;> rw [commandEffect, State.writePeriod_of_bytes _ hne] <;>
      simp [hhand, hheld, State.sameBut, State.onLink]
  · refine ⟨_, exec_of_running hr hw, ?_, ?_⟩ <;> rw [commandEffect, State.writePeriod_of_bytes _ hne] <;> simp only [State.begin_link, hhand, hheld]
    · simp [State.sameBut]
    · exact State.report_reported _ _ _

/-! ## The request rows (R159, R160) -/

/-- The step that answers a request, with none held behind it: its block's state, with the answer in the buffer. -/
theorem exec_closes {c : Instr} {row : RequestRow} {body : List Byte} {s : State} (hc : requestRow c = some row)
    (h : s.asks (row.frame body)) :
    exec c s = .next ((row.block body s.begin).1.closeRequest row.req.byte (row.block body s.begin).2) :=
  exec_asks c row hc body s h

/-- A step that only answers changes nothing but the link. -/
theorem State.closeRequest_sameBut (kind : Byte) (r : Reply) (s : State) : s.sameBut [.link] (s.begin.closeRequest kind r) := by
  simp [State.sameBut, State.closeRequest]

/-- A request whose block leaves the machine as it was is answered, and no more. -/
theorem exec_answers {c : Instr} {row : RequestRow} {body : List Byte} {s : State} (hc : requestRow c = some row)
    (h : s.asks (row.frame body)) {r : Reply} (hblock : row.block body s.begin = (s.begin, r)) :
    ∃ t : State, exec c s = .next t ∧ s.sameBut [.link] t ∧ t.answered row.req.byte r := by
  refine ⟨_, exec_closes hc h, ?_, ?_⟩
  · rw [hblock]
    exact State.closeRequest_sameBut _ _ s
  · rw [hblock]
    exact State.closeRequest_answered _ _ _

/-- Settles O18. -/
theorem requestRowsAnswerTheRequestInHand : Obligations.RequestRowsAnswerTheRequestInHand := by
  intro c row s hc hr
  refine ⟨fun body hasks => ?_, fun body held f r hhand hheld hf hreq hsub => ?_, fun hidle => ?_⟩
  · exact ⟨_, exec_closes hc hasks, State.closeRequest_answered _ _ _, rfl, rfl⟩
  · obtain ⟨hlink, -, -⟩ := requestRow_frame c row hc body s.begin
    rw [exec_requestRow c row hc, command_next _ _ hr, RequestRow.effect_taken _ body _ (by simpa using hhand)]
    refine ⟨_, rfl, ?_, ?_⟩ <;> unfold State.answer State.takeHeld <;>
      simp only [State.respond, State.onLink, hlink, State.begin_link, hheld] <;> rw [State.takeFrame_request _ hf hreq hsub] <;> rfl
  · rw [exec_requestRow c row hc, command_next _ _ hr, RequestRow.effect_idle row s.begin hidle]
    simp [State.settle, State.begin, State.attnLevel, hr, State.attentionCause]

end Sys2Proof.Machine

/-! The link's requests: what a refusal leaves, and what IDENTIFY, LOOKUP, COLLECT and FAULTS SETUP answer (R13, R146, R162, R173). -/

namespace Sys2Proof.Machine

/-! ## Refusals -/

theorem eventReply_code (t0 t1 : Table) (k : RecKey) (flags : List (Field × FieldOutcome)) (fields : List Field) (stamp : Stamp) :
    (eventReply t0 t1 k flags fields stamp).code ∉ ReplyCode.refusals := by
  unfold eventReply
  dsimp only
  split <;> decide

/-- DEFAULTS answers BUSY with nothing done, or an outcome that is no refusal (R43). -/
theorem State.takeDefaults_busy (s : State) : s.takeDefaults = (s, .busy) ∨ s.takeDefaults.2 ∉ ReplyCode.refusals := by
  have hnow : s.defaultsNow.2 ∉ ReplyCode.refusals := by
    unfold State.defaultsNow
    dsimp only
    split <;> decide
  unfold State.takeDefaults
  split
  · exact .inl rfl
  · exact .inr hnow
  · split
    · exact .inr (show ReplyCode.started ∉ ReplyCode.refusals by decide)
    · exact .inr hnow
  all_goals
    split
    · exact .inl rfl
    · exact .inr hnow

/-- A block that refuses leaves the machine as it was: FORCE, and an intent accepted, are the ones that may have an effect first. -/
theorem requestRow_refused {c : Instr} {row : RequestRow} (hc : requestRow c = some row) (hforce : c ≠ .force)
    (haccept : c ≠ .intentAccept) {body : List Byte} {s : State} (h : (row.block body s).2.code ∈ ReplyCode.refusals) :
    (row.block body s).1 = s := by
  have hdone : ReplyCode.done ∉ ReplyCode.refusals ∧ ReplyCode.doneNoEffect ∉ ReplyCode.refusals
      ∧ ReplyCode.started ∉ ReplyCode.refusals := by decide
  obtain ⟨hdone, hnoEffect, hstarted⟩ := hdone
  cases c <;> simp only [requestRow, Option.some.injEq, reduceCtorEq] at hc <;> subst hc
  case force => exact absurd rfl hforce
  case intentAccept => exact absurd rfl haccept
  all_goals
    revert h
    dsimp only
  case identify => unfold identifyRequest; split <;> simp
  case lookup => unfold lookupRequest; dsimp only; (repeat' split) <;> simp
  case amend => unfold amendRequest amendRecord; dsimp only; (repeat' split) <;> simp [eventReply_code]
  case create => unfold createRequest createRecord; dsimp only; (repeat' split) <;> simp [hdone]
  case retire => unfold retireRequest; (repeat' split) <;> simp [bare, hdone]
  case collect => unfold collectRequest; split <;> simp [hdone]
  case intentDrop => unfold intentDropRequest; split <;> simp [bare, hdone]
  case defaults =>
    unfold defaultsRequest
    dsimp only
    split
    · intro h
      rcases s.takeDefaults_busy with hbusy | hother
      · rw [hbusy]
      · exact absurd h hother
    · simp
  case store => unfold storeRequest; dsimp only; (repeat' split) <;> simp [bare, hstarted]
  case erase => unfold eraseRequest; (repeat' split) <;> simp [bare, hstarted]
  case directory => unfold directoryRequest; (repeat' split) <;> simp
  case storageStatus => unfold storageStatusRequest; (repeat' split) <;> simp [hdone]
  case protect => unfold protectRequest; (repeat' split) <;> simp [bare, hdone, hnoEffect]
  case faultsRead => unfold faultsReadRequest; split <;> simp
  case faultsClear => unfold faultsClearRequest; dsimp only; (repeat' split) <;> simp [bare, hdone, hnoEffect]
  case faultsSetup => unfold faultsSetupRequest; dsimp only; (repeat' split) <;> simp [bare, hdone, hnoEffect]
  -- RECALL, whose name is a keyword of Mathlib
  · unfold recallRequest
    (repeat' split) <;> simp [bare, hstarted]

/-- Settles O19. -/
theorem refusedRequestsChangeNothing : Obligations.RefusedRequestsChangeNothing := by
  intro c row body s hc hforce haccept hasks hcode
  have hleft := requestRow_refused hc hforce haccept hcode
  obtain ⟨t, hexec, hsame, hanswered⟩ :=
    exec_answers hc hasks (r := (row.block body s.begin).2) (Prod.ext hleft rfl)
  exact ⟨t, hexec, hanswered, hsame⟩

/-! ## Record keys as a request names them (R1) -/

theorem Cls.ofNumber_number (c : Cls) : Cls.ofNumber (byte c.number).toNat = some c := by cases c <;> decide

theorem Cls.instances_lt {c : Cls} {n : Nat} (h : n ∈ c.instances) : n < 256 := by
  have hall : ∀ m ∈ c.instances, m < 256 := by cases c <;> decide
  exact hall n h

theorem checkRecord_of_has {t : Table} {k : RecKey} (hinst : k.inst ∈ k.cls.instances) (hhas : t.has k = true) :
    checkRecord t (byte k.cls.number) (byte k.inst) = .inr k := by
  unfold checkRecord
  rw [Cls.ofNumber_number, byte_toNat _ (Cls.instances_lt hinst)]
  simp [hinst, hhas]

theorem readKey_of_has {t : Table} {k : RecKey} (bad : Reply) (hinst : k.inst ∈ k.cls.instances) (hhas : t.has k = true) :
    readKey t bad (keyBytes k) = .inr k := by
  simp [readKey, keyBytes, Cls.ofNumber_number, checkRecord_of_has hinst hhas]

/-! ## IDENTIFY, LOOKUP and COLLECT (R13, R162) -/

theorem lookupRequest_record {s : State} {k : RecKey} (hinst : k.inst ∈ k.cls.instances) (hhas : s.table.has k = true) :
    lookupRequest [byte k.cls.number, byte k.inst, 0] s =
      (s, { code := .done, body := stampBytes (s.table.stampOf k) ++ k.cls.fields.flatMap (fieldAnswer s.table k) }) := by
  simp [lookupRequest, Cls.ofNumber_number, checkRecord_of_has hinst hhas, lookupAnswer, firstPos, repeatedPos]

/-- Settles O20. -/
theorem identifyAndLookupAnswer : Obligations.IdentifyAndLookupAnswer := by
  intro s
  refine ⟨fun hasks => ?_, fun k hhas hinst hasks => ?_⟩
  · exact exec_answers (row := ⟨.identify, none, identifyRequest⟩) (body := []) rfl hasks rfl
  · exact exec_answers (row := ⟨.lookup, none, lookupRequest⟩) rfl hasks (lookupRequest_record hinst hhas)

/-- Settles O25. -/
theorem collectEmptiesTheLists : Obligations.CollectEmptiesTheLists := by
  intro s hasks
  have hrunning : s.inReset = false := hasks.1
  refine ⟨_, exec_closes (row := ⟨.collect, none, collectRequest⟩) (body := []) rfl hasks, ?_, rfl, State.closeRequest_answered _ _ _, ?_⟩
  · simp [State.sameBut, collectRequest, State.closeRequest]
  · simp [collectRequest, State.closeRequest, State.attnLevel, State.attentionCause, Table.attention, Table.collected, hrunning]

/-! ## FAULTS SETUP (R173) -/

/-- The settings that a mask or severity byte in its set asks for. -/
theorem faultsSetupRequest_of_values {set m v : Byte} {s : State} {mask : Option Bool} {severity : Option Severity}
    (hm : maskOfByte m = some mask) (hv : severityOfByte v = some severity) :
    faultsSetupRequest [set, m, v] s =
      ({ s with faults := { s.faults with entries := s.faults.onSet set (FaultEntry.setup mask severity) } },
       bare (if s.faults.onSet set (FaultEntry.setup mask severity) = s.faults.entries then .doneNoEffect else .done)) := by
  simp only [faultsSetupRequest, hm, hv]

theorem faultsSetupRequest_refused {set m v : Byte} {s : State} (h : maskOfByte m = none ∨ severityOfByte v = none) :
    faultsSetupRequest [set, m, v] s = (s, bare .badValue) := by
  rcases h with h | h
  · simp only [faultsSetupRequest, h]
  · unfold faultsSetupRequest
    cases hm : maskOfByte m <;> simp only [hm, h]

theorem maskOfByte_eq_none_iff (b : Byte) : maskOfByte b = none ↔ ¬ (b = 0 ∨ b = 1 ∨ b = 0xFF) := by
  unfold maskOfByte
  (repeat' split) <;> simp_all

theorem severityOfByte_eq_none_iff (b : Byte) : severityOfByte b = none ↔ ¬ (b = 0 ∨ b = 1 ∨ b = 0xFF) := by
  unfold severityOfByte
  (repeat' split) <;> simp_all

/-- What the values of a SETUP make of an entry. -/
theorem FaultEntry.setup_eq {m v : Byte} {mask : Option Bool} {severity : Option Severity} (hm : maskOfByte m = some mask)
    (hv : severityOfByte v = some severity) (e : FaultEntry) :
    e.setup mask severity = { e with
      masked := if m = 0 then false else if m = 1 then true else e.masked
      severity := if v = 0 then .note else if v = 1 then .stop else e.severity } := by
  unfold maskOfByte at hm
  unfold severityOfByte at hv
  unfold FaultEntry.setup
  congr 1
  · grind
  · grind

/-- Settles O34. -/
theorem faultsSetupNamedClasses : Obligations.FaultsSetupNamedClasses := by
  intro s set m v hasks
  have hrunning : s.inReset = false := hasks.1
  have hexec := exec_closes (c := .faultsSetup) (row := ⟨.faults, some 2, faultsSetupRequest⟩) (body := [set, m, v]) rfl hasks
  refine ⟨_, hexec, fun hm hv => ?_, fun hout => ?_⟩
  · obtain ⟨mask, hmask⟩ := Option.ne_none_iff_exists'.1 fun h => (maskOfByte_eq_none_iff m).1 h hm
    obtain ⟨severity, hseverity⟩ := Option.ne_none_iff_exists'.1 fun h => (severityOfByte_eq_none_iff v).1 h hv
    dsimp only
    simp only [faultsSetupRequest_of_values hmask hseverity]
    refine ⟨?_, rfl, ?_, ?_, State.closeRequest_answered _ _ _, State.closeRequest_attentionCause _ _ hrunning⟩
    · simp [State.sameBut, State.closeRequest]
    · simp
    · intro k e he
      rw [← FaultEntry.setup_eq hmask hseverity]
      exact Faults.onSet_getElem? he
  · have hrefused : maskOfByte m = none ∨ severityOfByte v = none := by
      rw [maskOfByte_eq_none_iff, severityOfByte_eq_none_iff]
      exact not_and_or.1 hout
    dsimp only
    rw [faultsSetupRequest_refused hrefused]
    exact ⟨State.closeRequest_sameBut _ _ s, State.closeRequest_answered _ _ _⟩

end Sys2Proof.Machine

/-! What is written on the Setting Link and the Capture Port is read back as itself (12_formats). -/

namespace Sys2Proof.Machine

/-! ## Messages and frames -/

theorem natBE_bytesBE_two {n : Nat} (h : n < 65536) : natBE (bytesBE 2 n) = n := by
  rw [natBE_bytesBE]
  exact Nat.mod_eq_of_lt h

theorem bytesBE_two (n : Nat) : ∃ hi lo, bytesBE 2 n = [hi, lo] := ⟨_, _, rfl⟩

theorem captureMsg_reduceData {a b c d : Nat} (ha : a < 65536) (hb : b < 65536) (hc : c < 65536) (hd : d < 65536) :
    captureMsg 0x82 (bytesBE 2 a ++ bytesBE 2 b ++ bytesBE 2 c ++ bytesBE 2 d) = some (.reduceData a b c d) := by
  have ha := natBE_bytesBE_two ha
  have hb := natBE_bytesBE_two hb
  have hc := natBE_bytesBE_two hc
  have hd := natBE_bytesBE_two hd
  obtain ⟨a1, a0, hab⟩ := bytesBE_two a
  obtain ⟨b1, b0, hbb⟩ := bytesBE_two b
  obtain ⟨c1, c0, hcb⟩ := bytesBE_two c
  obtain ⟨d1, d0, hdb⟩ := bytesBE_two d
  rw [hab] at ha ⊢
  rw [hbb] at hb ⊢
  rw [hcb] at hc ⊢
  rw [hdb] at hd ⊢
  simp [captureMsg, ha, hb, hc, hd]

/-- A message that fits is read from its bytes as itself. -/
theorem readMessage_bytes {m : CaptureMsg} (h : m.fits) : readMessage m.bytes = some m := by
  cases m with
  | ack => exact readMessage_frameMessage _ _ (by simp)
  | hello => exact readMessage_frameMessage _ _ (by simp)
  | reduceData a b c d =>
    obtain ⟨ha, hb, hc, hd⟩ := h
    rw [CaptureMsg.bytes, readMessage_frameMessage _ _ (by simp)]
    exact captureMsg_reduceData ha hb hc hd
  | prefilled n => exact readMessage_prefilled n h
  | triggered n forced => exact readMessage_triggered n forced h
  | complete n =>
    rw [CaptureMsg.bytes, readMessage_frameMessage _ _ (by simp)]
    simp [captureMsg, byte_toNat n h]
  | fault c =>
    rw [CaptureMsg.bytes, readMessage_frameMessage _ _ (by simp)]
    simp [captureMsg]

/-- A request frame within R158's limit passes the four checks. -/
theorem checkFrame_requestBytes {f : Frame} (h : f.body.length ≤ 1018) : checkFrame (requestBytes f) = .inr f := by
  have hlength := natBE_bytesBE_two (n := f.body.length) (by omega)
  have hcrc (l : List Byte) : (crc16Bytes l).length = 2 := bytesBE_length 2 _
  obtain ⟨hi, lo, hbytes⟩ := bytesBE_two f.body.length
  rw [hbytes] at hlength
  have hfits : ¬ 1018 < f.body.length ∧ f.body.length + 2 + 3 + 1 = 6 + f.body.length := by omega
  obtain ⟨hover, hexact⟩ := hfits
  simp [checkFrame, requestBytes, hbytes, hlength, hcrc, hover, hexact]
  omega

/-- Settles O10. -/
theorem messagesAndFramesRoundTrip : Obligations.MessagesAndFramesRoundTrip :=
  ⟨fun _ h => readMessage_bytes h, fun _ h => checkFrame_requestBytes h⟩

/-! ## Numbers, texts and references -/

theorem numberBytes_length (n : Int) : (numberBytes n).length = 8 := bytesBE_length 8 _

/-- Two's complement in 8 bytes (12_formats). -/
theorem numberOfBytes_numberBytes {n : Int} (hlo : -2 ^ 63 ≤ n) (hhi : n < 2 ^ 63) : numberOfBytes (numberBytes n) = n := by
  have hmod : ((n % 2 ^ 64).toNat : Int) = n % 2 ^ 64 := Int.toNat_of_nonneg (Int.emod_nonneg _ (by decide))
  have hlt : (n % 2 ^ 64).toNat < 256 ^ 8 := by omega
  unfold numberOfBytes numberBytes
  rw [natBE_bytesBE, Nat.mod_eq_of_lt hlt]
  dsimp only
  split <;> omega

theorem takeBytes_numberBytes (n : Int) (rest : List Byte) : takeBytes 8 (numberBytes n ++ rest) = some (numberBytes n, rest) :=
  takeBytes_append 8 _ _ (numberBytes_length n)

theorem printable_toNat {c : Char} (h : printable c = true) : c.toNat < 256 := by
  simp only [printable, Bool.and_eq_true, decide_eq_true_eq] at h
  omega

theorem map_byte_toNat {l : List Nat} (h : ∀ e ∈ l, e < 256) : (l.map byte).map (·.toNat) = l := by
  rw [List.map_map]
  conv_rhs => rw [← List.map_id l]
  exact List.map_congr_left fun e he => byte_toNat e (h e he)

/-- A text of characters that the link takes is read from its bytes as itself (R22, R175). -/
theorem readText_textBytes {x : Text} (hlen : x.length ≤ 32) (hchars : x.all printable = true) (rest : List Byte) :
    readText (textBytes x ++ rest) = .good (.text x) rest := by
  have hb : (byte x.length).toNat = x.length := byte_toNat _ (by omega)
  have hne : byte x.length ≠ 0xFF := by
    intro h
    have := congrArg BitVec.toNat h
    rw [hb] at this
    simp at this
    omega
  have hmap : (x.map fun c => byte c.toNat).map (fun c => Char.ofNat c.toNat) = x := by
    rw [List.map_map]
    conv_rhs => rw [← List.map_id x]
    refine List.map_congr_left fun c hc => ?_
    have hp := printable_toNat (List.all_eq_true.1 hchars c hc)
    simp only [Function.comp_apply, byte_toNat _ hp, id_eq, Char.ofNat_toNat]
  unfold textBytes readText
  simp only [List.cons_append, hne, if_false, hb, takeBytes_append _ _ rest (List.length_map _), hmap]
  rw [if_neg (by omega)]

theorem Cls.field_ident (f : Field) : f.cls.field (byte f.ident).toNat = some f := by cases f <;> decide

theorem Cls.number_ne_zero (c : Cls) : byte c.number ≠ 0#8 := by cases c <;> decide

theorem readRef_refBytes {r : Ref} (hcls : r.field.cls = r.key.cls) (hinst : r.key.inst < 256) (rest : List Byte) :
    readRef (refBytes r ++ rest) = .good (.ref r) rest := by
  have hfield : r.key.cls.field (byte r.field.ident).toNat = some r.field := by rw [← hcls]; exact Cls.field_ident r.field
  simp [readRef, refBytes, keyBytes, Cls.number_ne_zero, Cls.ofNumber_number, hfield, byte_toNat _ hinst]

/-! ## Values -/

/-- A value in the encoding of its field's sort is read as itself, with what follows it left (12_formats). -/
theorem readValue_encodeValue (t : Table) (r : Ref) {v : Value} (rest : List Byte) (fuel : Nat) (target : Option Ref)
    (h : v.fits r.field.sort) : readValue t fuel r.field.sort target (encodeValue t v r ++ rest) = .good v rest := by
  generalize hsort : r.field.sort = sort at *
  cases sort <;> cases v <;> simp only [Value.fits] at h
  case number.num n =>
    obtain ⟨hlo, hhi⟩ := h
    unfold readValue
    simp [encodeValue, hsort, takeBytes_numberBytes, numberOfBytes_numberBytes hlo hhi]
  case enumerated.enum m p =>
    obtain ⟨hp, hlt⟩ := h
    unfold readValue
    simp [encodeValue, byte_toNat p hlt, hp]
  case truth.truth b =>
    unfold readValue
    cases b <;> simp [encodeValue, readTruth]
  case text.text x =>
    obtain ⟨hlen, hchars⟩ := h
    unfold readValue
    exact readText_textBytes hlen hchars rest
  case text.absent =>
    unfold readValue
    simp [encodeValue, hsort, readText]
  case optNumber.num n =>
    obtain ⟨hlo, hhi⟩ := h
    unfold readValue
    simp [encodeValue, hsort, takeBytes_numberBytes, numberOfBytes_numberBytes hlo hhi]
  case optNumber.absent =>
    unfold readValue
    simp [encodeValue, hsort]
  case reference.ref x =>
    obtain ⟨hcls, hinst⟩ := h
    unfold readValue
    exact readRef_refBytes hcls hinst rest
  case reference.absent =>
    unfold readValue
    simp [encodeValue, hsort, readRef]
  case edges.edges l =>
    obtain ⟨hlen, hall⟩ := h
    unfold readValue
    simp only [encodeValue, takeBytes_append 12 (l.map byte) rest (by simp [hlen]), map_byte_toNat hall]
  case keySet.keys l =>
    obtain ⟨hlen, hall⟩ := h
    unfold readValue
    simp only [encodeValue, List.cons_append, byte_toNat _ hlen, takeBytes_append l.length (l.map byte) rest (by simp),
      map_byte_toNat hall]

/-- Settles O11: a value present is its byte 01h and the value in its target's encoding. -/
theorem fieldValuesRoundTrip : Obligations.FieldValuesRoundTrip := by
  refine ⟨fun t r v rest fuel target h => readValue_encodeValue t r rest fuel target h, fun t r q v rest fuel hsort htarget h => ?_,
    fun t r rest fuel target hsort => ?_⟩
  · rw [hsort]
    unfold readValue
    simp [encodeValue, htarget, readValue_encodeValue t q rest fuel (t.argTarget q) h]
  · rw [hsort]
    unfold readValue
    simp [encodeValue, hsort]

end Sys2Proof.Machine

/-! The storage requests (R143 to R147, R150, R152, R153): what each asks, by which check it is refused, and what it begins. -/

namespace Sys2Proof.Machine

/-! ## The checks of R146 -/

/-- The first check of R146 that fails, of a request of a slot whose values are `bad` or not, or `last` where checks 1 to 5 pass. -/
def State.admission (slot : Nat) (bad : Bool) (last : ReplyCode) (s : State) : ReplyCode :=
  match s.table.system.storeState with
  | .absent => .noStore
  | .scanning => .busy
  | .idle => if 31 < slot then .outOfRange else if bad then .badValue else last
  | .storing | .recalling | .erasing => if 31 < slot then .outOfRange else if bad then .badValue else .busy

/-- Check 6 of R146 for a STORE or an ERASE. -/
def State.writeCode (slot : Nat) (s : State) : ReplyCode :=
  if slot = 31 ∧ s.engine.protect then .protectedSlot else .started

/-- Check 7 of R146, for a RECALL. -/
def State.recallCode (slot : Nat) (s : State) : ReplyCode :=
  match s.engine.directory.getD slot .empty with
  | .empty => .empty
  | .damaged => .damaged
  | .foreign => .foreign
  | .valid _ _ _ => .started

/-- A refusal, or none for the code STARTED. -/
def ReplyCode.refusal (c : ReplyCode) : Option ReplyCode := if c = .started then none else some c

theorem State.writeRefused_eq (slot : Nat) (bad : Bool) (s : State) :
    s.writeRefused slot (!bad) = (s.admission slot bad (s.writeCode slot)).refusal := by
  unfold State.writeRefused State.storeAbsent State.storeBusy State.admission State.writeCode ReplyCode.refusal
  cases s.table.system.storeState <;> dsimp only <;> (repeat' split) <;> simp_all

theorem State.recallRefused_eq (slot : Nat) (bad : Bool) (s : State) :
    s.recallRefused slot (!bad) = (s.admission slot bad (s.recallCode slot)).refusal := by
  unfold State.recallRefused State.storeAbsent State.storeBusy State.admission State.recallCode ReplyCode.refusal
  cases s.table.system.storeState <;> dsimp only <;> (repeat' split) <;> simp_all

/-- The category sets that check 4 refuses: an empty one, and one with bit 6 or 7 set (R146, R175). -/
def badCategories (b : Byte) : Bool := b == 0 || b.getLsbD 6 || b.getLsbD 7

theorem chosenCategories_isSome : ∀ b : Byte, (chosenCategories b).isSome = !badCategories b := by decide +kernel

/-! ## ERASE and RECALL -/

theorem eraseRequest_eq (slot : Byte) (s : State) :
    eraseRequest [slot] s =
      if s.admission slot.toNat false (s.writeCode slot.toNat) = .started then
        (s.beginOp .erasing { op := .erase, slot := slot.toNat, mask := .all } none, bare .started)
      else (s, bare (s.admission slot.toNat false (s.writeCode slot.toNat))) := by
  have h := s.writeRefused_eq slot.toNat false
  rw [Bool.not_false] at h
  simp only [eraseRequest, h, ReplyCode.refusal]
  by_cases hcode : s.admission slot.toNat false (s.writeCode slot.toNat) = .started
  · simp only [if_pos hcode]
  · simp only [if_neg hcode]

theorem recallRequest_refused {slot cats : Byte} {s : State}
    (h : s.admission slot.toNat (badCategories cats) (s.recallCode slot.toNat) ≠ .started) :
    recallRequest [slot, cats] s = (s, bare (s.admission slot.toNat (badCategories cats) (s.recallCode slot.toNat))) := by
  have hrefused := s.recallRefused_eq slot.toNat (badCategories cats)
  rw [← chosenCategories_isSome] at hrefused
  simp only [recallRequest, hrefused, ReplyCode.refusal, if_neg h]

theorem recallRequest_started {slot cats : Byte} {set : Categories} {s : State} (hset : chosenCategories cats = some set)
    (h : s.admission slot.toNat false (s.recallCode slot.toNat) = .started) :
    recallRequest [slot, cats] s =
      (s.beginOp .recalling { op := .recall, slot := slot.toNat, mask := set } (some .read), bare .started) := by
  have hrefused := s.recallRefused_eq slot.toNat false
  rw [Bool.not_false] at hrefused
  simp only [recallRequest, hset, Option.isSome_some, hrefused, ReplyCode.refusal, if_pos h]

/-! ## STORE -/

/-- A character byte that a label may hold (R22). -/
def labelByte (c : Byte) : Bool := decide (0x20 ≤ c.toNat) && decide (c.toNat ≤ 0x7E)

/-- A label that check 4 refuses (R146, R175). -/
def badLabel (chars : List Byte) : Bool := !chars.all labelByte || decide (32 < chars.length)

theorem printable_ofNat (c : Byte) : printable (Char.ofNat c.toNat) = labelByte c := by
  have hlt : c.toNat < 256 := c.isLt
  have hnat : (Char.ofNat c.toNat).toNat = c.toNat := by
    rw [Char.toNat_ofNat, if_pos (.inl (by omega))]
  simp [printable, labelByte, hnat]

theorem storeLabel_isSome (chars : List Byte) :
    (storeLabel (.text (chars.map fun c => Char.ofNat c.toNat))).isSome = chars.all labelByte := by
  have hall : (chars.map fun c => Char.ofNat c.toNat).all printable = chars.all labelByte := by
    rw [List.all_map]
    exact congrArg chars.all (funext printable_ofNat)
  cases chars with
  | nil => rfl
  | cons c cs =>
    rw [← hall]
    unfold storeLabel
    simp only [List.map_cons]
    split <;> simp_all

/-- STORE's answer to a label as read and a category set (R146, R147). -/
def storeAnswer (slot : Nat) (label : Option (Option Text)) (cats : Byte) (s : State) : State × Reply :=
  match s.writeRefused slot (label.isSome && (chosenCategories cats).isSome) with
  | some code => (s, bare code)
  | none =>
    match label, chosenCategories cats with
    | some label, some cats => (s.beginStore slot label cats, bare .started)
    | _, _ => (s, bare .badValue)

theorem storeRequest_absent (slot cats : Byte) (s : State) :
    storeRequest [slot, 0xFF, cats] s = storeAnswer slot.toNat (some none) cats s := rfl

theorem storeRequest_text {n cats : Byte} {chars : List Byte} (hne : n ≠ 0xFF) (hlen : chars.length = n.toNat) (slot : Byte) (s : State) :
    storeRequest (slot :: n :: (chars ++ [cats])) s =
      storeAnswer slot.toNat (if 32 < n.toNat then none else storeLabel (.text (chars.map fun c => Char.ofNat c.toNat))) cats s := by
  have htake : takeBytes n.toNat (chars ++ [cats]) = some (chars, [cats]) := takeBytes_append _ _ _ hlen
  unfold storeRequest readText
  by_cases hlong : 32 < n.toNat
  · simp only [if_neg hne, htake, if_pos hlong]
    rfl
  · simp only [if_neg hne, htake, if_neg hlong]
    rfl

/-- What STORE makes of a label given by its length byte and characters. -/
theorem storeRequest_label {n : Byte} {chars : List Byte}
    (hn : (n = 0xFF ∧ chars = []) ∨ (n ≠ 0xFF ∧ chars.length = n.toNat)) (slot cats : Byte) (s : State) :
    ∃ label : Option (Option Text), label.isSome = !badLabel chars ∧
      storeRequest (slot :: n :: (chars ++ [cats])) s = storeAnswer slot.toNat label cats s := by
  rcases hn with ⟨rfl, rfl⟩ | ⟨hne, hlen⟩
  · exact ⟨some none, rfl, storeRequest_absent slot cats s⟩
  · refine ⟨_, ?_, storeRequest_text hne hlen slot s⟩
    split
    · simp [badLabel, *]
    · rw [storeLabel_isSome]
      simp [badLabel, *]

theorem storeAnswer_refused {slot : Nat} {label : Option (Option Text)} {bad : Bool} {cats : Byte} {s : State}
    (hlabel : label.isSome = !bad)
    (h : s.admission slot (bad || badCategories cats) (s.writeCode slot) ≠ .started) :
    storeAnswer slot label cats s = (s, bare (s.admission slot (bad || badCategories cats) (s.writeCode slot))) := by
  have hrefused := s.writeRefused_eq slot (bad || badCategories cats)
  rw [Bool.not_or, ← hlabel, ← chosenCategories_isSome] at hrefused
  simp only [storeAnswer, hrefused, ReplyCode.refusal, if_neg h]

theorem storeAnswer_started {slot : Nat} {label : Option Text} {cats : Byte} {set : Categories} {s : State}
    (hset : chosenCategories cats = some set) (h : s.admission slot false (s.writeCode slot) = .started) :
    storeAnswer slot (some label) cats s = (s.beginStore slot label set, bare .started) := by
  have hrefused := s.writeRefused_eq slot false
  rw [Bool.not_false] at hrefused
  simp only [storeAnswer, hset, Option.isSome_some, Bool.and_self, hrefused, ReplyCode.refusal, if_pos h]

/-- Settles O30. -/
theorem eraseRefusedInOrder : Obligations.EraseRefusedInOrder := by
  intro s slot
  refine ⟨fun hasks hcode => ?_, fun n cats chars hn hasks => ?_, fun cats hasks hcode => ?_⟩
  · refine exec_answers (c := .erase) (row := ⟨.erase, none, eraseRequest⟩) (body := [slot]) rfl hasks ?_
    exact (eraseRequest_eq slot s.begin).trans (if_neg hcode)
  · intro hlabel hcode
    obtain ⟨label, hsome, hanswer⟩ := storeRequest_label hn slot cats s.begin
    refine exec_answers (c := .store) (row := ⟨.store, none, storeRequest⟩) (body := slot :: n :: (chars ++ [cats])) rfl hasks ?_
    exact hanswer.trans (storeAnswer_refused hsome hcode)
  · refine exec_answers (c := .recall) (row := ⟨.recall, none, recallRequest⟩) (body := [slot, cats]) rfl hasks ?_
    exact recallRequest_refused (s := s.begin) hcode

/-! ## What an admitted request begins -/

/-- An operation that begins issues its first flash operation, or waits for the flash (R144, R149). -/
theorem State.beginOp_flashStarted {s : State} {st : StoreState} {o : OpInHand} {phase : Option Phase} {op : FlashOp}
    {limit : Option Nat} (hout : s.out.flash = [])
    (hop : (o.op.recalls = false ∧ op = .sectorErase (slotAddress o.slot) ∧ limit = some 2000000)
      ∨ (o.op.recalls = true ∧ op = .read (slotAddress o.slot) ∧ limit = none)) :
    State.flashStarted op limit s (s.beginOp st o phase) := by
  have hstart : s.beginOp st o phase =
      ((s.onEngine fun e => { e with op := some o, phase := phase, page := none }).setStoreState st).firstFlashOp op limit := by
    unfold State.beginOp State.startFlash
    simp only [State.setStoreState_frame, State.onEngine_engine]
    rcases hop with ⟨hrecalls, rfl, rfl⟩ | ⟨hrecalls, rfl, rfl⟩ <;> cases ho : o.op <;> simp_all [Operation.recalls]
  have hfirst := State.firstFlashOp_started
    ((s.onEngine fun e => { e with op := some o, phase := phase, page := none }).setStoreState st) op limit (by simpa using hout)
  rw [hstart]
  simpa [State.flashStarted] using hfirst

/-- An answer moves neither engine nor outputs. -/
theorem State.closeRequest_flashStarted {op : FlashOp} {limit : Option Nat} {s t : State} (kind : Byte) (r : Reply)
    (h : State.flashStarted op limit s t) : State.flashStarted op limit s (t.closeRequest kind r) := h

/-- The label's bytes are read as the label, of which the image takes the first 16; an empty one is as an absent one (R146, log 24). -/
theorem storeRequest_optText {label : Option Text} (hlabel : ∀ x, label = some x → x.length ≤ 32 ∧ x.all printable = true)
    (slot cats : Byte) (s : State) :
    ∃ cut : Option Text, storeRequest (slot :: (optTextBytes label ++ [cats])) s = storeAnswer slot.toNat (some cut) cats s
      ∧ ∀ t c, buildImage t c cut = buildImage t c (label.map (·.take 16)) := by
  cases label with
  | none => exact ⟨none, rfl, fun _ _ => rfl⟩
  | some x =>
    obtain ⟨hlen, hchars⟩ := hlabel x rfl
    have hread : storeRequest (slot :: (optTextBytes (some x) ++ [cats])) s = storeAnswer slot.toNat (storeLabel (.text x)) cats s := by
      unfold storeRequest
      simp only [optTextBytes, readText_textBytes hlen hchars]
      rfl
    cases x with
    | nil => exact ⟨none, hread, fun _ _ => rfl⟩
    | cons c cs =>
      have hcut : storeLabel (.text (c :: cs)) = some (some ((c :: cs).take 16)) := by simp only [storeLabel, hchars, if_true]
      exact ⟨some ((c :: cs).take 16), by rw [hread, hcut], fun _ _ => rfl⟩

theorem State.admission_idle {s : State} {slot : Nat} {last : ReplyCode} (hidle : s.table.system.storeState = .idle) (hslot : slot ≤ 31) :
    s.admission slot false last = last := by
  simp [State.admission, hidle, hslot]

theorem State.writeCode_started {s : State} {slot : Nat} (h : ¬ (slot = 31 ∧ s.engine.protect = true)) : s.writeCode slot = .started :=
  if_neg h

theorem State.recallCode_started {s : State} {slot : Nat} (h : s.engine.slotValid slot = true) : s.recallCode slot = .started := by
  unfold Engine.slotValid at h
  unfold State.recallCode
  rw [List.getD_eq_getElem?_getD]
  cases he : s.engine.directory[slot]? with
  | none => simp [he] at h
  | some e => cases e <;> simp_all [SlotEntry.isValid]

/-- A request that begins a storage operation is answered STARTED in the same step (R144, R147, R150, R152). -/
theorem exec_beginsOp {s s1 : State} {c : Instr} {row : RequestRow} {body : List Byte} {st : StoreState} {o : OpInHand}
    {phase : Option Phase} {op : FlashOp} {limit : Option Nat}
    (hrow : requestRow c = some row) (hasks : s.asks (row.frame body))
    (hblock : row.block body s.begin = (s1.beginOp st o phase, bare .started)) (hout : s1.out.flash = [])
    (hop : (o.op.recalls = false ∧ op = .sectorErase (slotAddress o.slot) ∧ limit = some 2000000)
      ∨ (o.op.recalls = true ∧ op = .read (slotAddress o.slot) ∧ limit = none)) :
    ∃ t, exec c s = .next t ∧ t.answered row.req.byte (bare .started) ∧ t.table.system.storeState = st ∧ t.engine.op = some o
      ∧ t.engine.phase = phase ∧ t.engine.image = s1.engine.image ∧ t.engine.directory = s1.engine.directory
      ∧ t.table.settings = s1.table.settings ∧ State.flashStarted op limit s1 t := by
  have hexec := exec_closes hrow hasks
  rw [hblock] at hexec
  obtain ⟨htable, hengine⟩ := State.beginOp_effect s1 st o phase
  refine ⟨_, hexec, State.closeRequest_answered _ _ _, ?_, ?_, ?_, ?_, ?_, ?_, State.beginOp_flashStarted hout hop⟩
  · have h := congrArg (fun t => t.system.storeState) htable
    exact h
  · have h := congrArg Engine.op hengine
    exact h
  · have h := congrArg Engine.phase hengine
    exact h
  · have h := congrArg Engine.image hengine
    exact h
  · have h := congrArg Engine.directory hengine
    exact h
  · exact State.beginOp_settings s1 st o phase

/-- Settles O29. -/
theorem storageOperationsStart : Obligations.StorageOperationsStart := by
  intro s slot hidle hslot
  have hnat : (byte slot).toNat = slot := byte_toNat slot (by omega)
  have hidle' : s.begin.table.system.storeState = .idle := hidle
  refine ⟨fun cats set label hset hlabel hprotect hasks => ?_, fun cats set hset hvalid hasks => ?_, fun hprotect hasks => ?_⟩
  · obtain ⟨cut, hread, himage⟩ := storeRequest_optText hlabel (byte slot) cats s.begin
    have hblock : storeRequest (byte slot :: (optTextBytes label ++ [cats])) s.begin = (s.begin.beginStore slot cut set, bare .started) := by
      rw [hread, hnat]
      exact storeAnswer_started hset ((State.admission_idle hidle' hslot).trans (State.writeCode_started hprotect))
    obtain ⟨t, hexec, hanswer, hstate, hop, hphase, hcut, hdir, hsettings, hflash⟩ :=
      exec_beginsOp (c := .store) (row := ⟨.store, none, storeRequest⟩) (body := byte slot :: (optTextBytes label ++ [cats]))
        (s1 := s.begin.onEngine fun e => { e with image := buildImage s.table set cut }) rfl hasks hblock rfl (.inl ⟨rfl, rfl, rfl⟩)
    exact ⟨t, hexec, hanswer, hstate, hop, hphase, hcut.trans (himage s.table set), hdir, hsettings, hflash⟩
  · have hblock : recallRequest [byte slot, cats] s.begin =
        (s.begin.beginOp .recalling { op := .recall, slot := slot, mask := set } (some .read), bare .started) := by
      have hstarted : s.begin.admission (byte slot).toNat false (s.begin.recallCode (byte slot).toNat) = .started := by
        rw [hnat]
        exact (State.admission_idle hidle' hslot).trans (State.recallCode_started hvalid)
      rw [recallRequest_started hset hstarted, hnat]
    obtain ⟨t, hexec, hanswer, hstate, hop, hphase, -, hdir, hsettings, hflash⟩ :=
      exec_beginsOp (c := .recall) (row := ⟨.recall, none, recallRequest⟩) (body := [byte slot, cats])
        rfl hasks hblock rfl (.inr ⟨rfl, rfl, rfl⟩)
    exact ⟨t, hexec, hanswer, hstate, hop, hphase, hdir, hsettings, hflash⟩
  · have hblock : eraseRequest [byte slot] s.begin =
        (s.begin.beginOp .erasing { op := .erase, slot := slot, mask := .all } none, bare .started) := by
      have hstarted : s.begin.admission (byte slot).toNat false (s.begin.writeCode (byte slot).toNat) = .started := by
        rw [hnat]
        exact (State.admission_idle hidle' hslot).trans (State.writeCode_started hprotect)
      rw [eraseRequest_eq, if_pos hstarted, hnat]
    obtain ⟨t, hexec, hanswer, hstate, hop, hphase, -, hdir, hsettings, hflash⟩ :=
      exec_beginsOp (c := .erase) (row := ⟨.erase, none, eraseRequest⟩) (body := [byte slot])
        rfl hasks hblock rfl (.inl ⟨rfl, rfl, rfl⟩)
    exact ⟨t, hexec, hanswer, hstate, hop, hphase, hdir, hsettings, hflash⟩

/-! ## DIRECTORY, STORAGE STATUS and PROTECT -/

theorem State.storeAbsent_none {s : State} (habsent : s.table.system.storeState ≠ .absent) (hscanning : s.table.system.storeState ≠ .scanning) :
    s.storeAbsent = none := by
  unfold State.storeAbsent
  cases h : s.table.system.storeState <;> simp_all

theorem State.storeAbsent_some {s : State} {code : ReplyCode}
    (h : s.table.system.storeState = .absent ∧ code = .noStore ∨ s.table.system.storeState = .scanning ∧ code = .busy) :
    s.storeAbsent = some code := by
  unfold State.storeAbsent
  rcases h with ⟨h, rfl⟩ | ⟨h, rfl⟩ <;> rw [h]

theorem State.protectRefused_of_absent {s : State} {code : ReplyCode} (h : s.storeAbsent = some code) : s.protectRefused = some code := by
  simp only [State.protectRefused, h]

theorem State.protectRefused_none {s : State} (h : s.storeAbsent = none)
    (hop : ∀ o, s.engine.op = some o → ¬ (o.slot = 31 ∧ (o.op = .store ∨ o.op = .erase))) : s.protectRefused = none := by
  unfold State.protectRefused
  rw [h]
  cases ho : s.engine.op with
  | none => rfl
  | some o => simp only [if_neg (hop o ho)]

theorem State.protectRefused_busy {s : State} {o : OpInHand} (h : s.storeAbsent = none) (ho : s.engine.op = some o)
    (hslot : o.slot = 31) (hop : o.op = .store ∨ o.op = .erase) : s.protectRefused = some .busy := by
  have hboth : o.slot = 31 ∧ (o.op = .store ∨ o.op = .erase) := ⟨hslot, hop⟩
  simp only [State.protectRefused, h, ho, if_pos hboth]

/-- An answer after a change of the engine alone. -/
theorem State.closeRequest_onEngine_sameBut (kind : Byte) (r : Reply) (f : Engine → Engine) (s : State) :
    s.sameBut [.engine, .link] ((s.begin.onEngine f).closeRequest kind r) := by
  simp [State.sameBut, State.closeRequest, State.onEngine]

/-- Settles O31. -/
theorem storageReportsAndLatch : Obligations.StorageReportsAndLatch := by
  intro s
  refine ⟨fun c row code hc hrow hstate hasks => ?_, fun habsent hscanning => ⟨fun hasks => ?_, fun hasks => ?_, fun hasks hop => ?_,
    fun o hasks ho hslot hop => ?_⟩⟩
  · have hsome : s.begin.storeAbsent = some code := State.storeAbsent_some (s := s.begin) hstate
    refine exec_answers hrow hasks ?_
    rcases hc with rfl | rfl | rfl <;> obtain rfl := Option.some.inj hrow
    · simp [directoryRequest, hsome]
    · simp [storageStatusRequest, hsome]
    · simp [protectRequest, State.protectRefused_of_absent hsome]
  · have hnone : s.begin.storeAbsent = none := State.storeAbsent_none (s := s.begin) habsent hscanning
    refine exec_answers (c := .directory) (row := ⟨.directory, none, directoryRequest⟩) (body := []) rfl hasks ?_
    simp [directoryRequest, hnone]
  · have hnone : s.begin.storeAbsent = none := State.storeAbsent_none (s := s.begin) habsent hscanning
    have hblock : storageStatusRequest [] s.begin = (s.begin.onEngine fun e => { e with result := { e.result with unread := false } },
        { code := .done, body := storageStatusBody s }) := by
      simp only [storageStatusRequest, hnone]
      rfl
    have hexec := exec_closes (c := .storageStatus) (row := ⟨.storageStatus, none, storageStatusRequest⟩) (body := []) rfl hasks
    dsimp only at hexec
    rw [hblock] at hexec
    exact ⟨_, hexec, State.closeRequest_onEngine_sameBut _ _ _ s, rfl, State.closeRequest_answered _ _ _⟩
  · have hnone : s.begin.protectRefused = none :=
      State.protectRefused_none (State.storeAbsent_none (s := s.begin) habsent hscanning) hop
    have hblock : protectRequest [] s.begin = (s.begin.onEngine fun e => { e with protect := true },
        bare (if s.engine.protect then .doneNoEffect else .done)) := by
      simp only [protectRequest, hnone]
      rfl
    have hexec := exec_closes (c := .protect) (row := ⟨.protect, none, protectRequest⟩) (body := []) rfl hasks
    dsimp only at hexec
    rw [hblock] at hexec
    exact ⟨_, hexec, State.closeRequest_onEngine_sameBut _ _ _ s, rfl, State.closeRequest_answered _ _ _⟩
  · have hbusy : s.begin.protectRefused = some .busy :=
      State.protectRefused_busy (State.storeAbsent_none (s := s.begin) habsent hscanning) ho hslot hop
    refine exec_answers (c := .protect) (row := ⟨.protect, none, protectRequest⟩) (body := []) rfl hasks ?_
    simp [protectRequest, hbusy]

end Sys2Proof.Machine

/-! FORCE, DEFAULTS and the intents (R17, R18, R43, R87): what each does by the state it finds, and what it answers. -/

namespace Sys2Proof.Machine

/-! ## FORCE (R87) -/

@[simp] theorem State.closeRequest_frame (kind : Byte) (r : Reply) (s : State) :
    (s.closeRequest kind r).table = s.table ∧ (s.closeRequest kind r).inbox = s.inbox ∧ (s.closeRequest kind r).scanner = s.scanner
      ∧ (s.closeRequest kind r).lamps = s.lamps ∧ (s.closeRequest kind r).planner = s.planner ∧ (s.closeRequest kind r).run = s.run
      ∧ (s.closeRequest kind r).port = s.port ∧ (s.closeRequest kind r).composer = s.composer
      ∧ (s.closeRequest kind r).engine = s.engine ∧ (s.closeRequest kind r).clock = s.clock
      ∧ (s.closeRequest kind r).inReset = s.inReset ∧ (s.closeRequest kind r).out = s.out
      ∧ (s.closeRequest kind r).pending = s.pending :=
  ⟨rfl, rfl, rfl, rfl, rfl, rfl, rfl, rfl, rfl, rfl, rfl, rfl, rfl⟩

/-- A FORCE served by the port is the outcome of R87 that the controller's state gives. -/
theorem State.forceTrigger_forced {s : State} (hout : s.out.capture = []) :
    State.forced s.forceTrigger.2 s s.forceTrigger.1.pump := by
  unfold State.forceTrigger State.forced
  cases s.table.acquire.acqState <;> dsimp only
  case ready =>
    by_cases hnone : s.run.forceOrigin = .none
    · simp only [if_pos hnone]
      intro x hfind
      have hqueued := State.pump_queued ((s.onRun fun r => { r with autoTimer := none, forceOrigin := .user }).enqueue (.force x))
        (s.run.queue ++ [.force x]) rfl hout
      rw [hfind]
      refine ⟨rfl, by simp [State.enqueue, State.onRun], by simp [State.enqueue, State.onRun], by simp [State.enqueue, State.onRun], ?_⟩
      exact State.queued_of_eq hqueued rfl rfl rfl rfl rfl rfl
    · simp [if_neg hnone]
  case arming => cases hp : s.run.forcePending <;> simp [State.onRun, hp]
  case waitBank => cases hp : s.run.forcePending <;> simp [State.onRun, hp]
  all_goals simp

/-- What R87 says of a FORCE reads the controller, the port, the clock and the port's line alone. -/
theorem State.forced.congr {code : ReplyCode} {s s' t t' : State} (h : State.forced code s t)
    (hacq : s'.table.acquire.acqState = s.table.acquire.acqState) (hrun : s'.run = s.run)
    (honline : s'.table.system.captureOnline = s.table.system.captureOnline) (hport : s'.port.outstanding = s.port.outstanding)
    (hrun' : t'.run = t.run) (hport' : t'.port.outstanding = t.port.outstanding) (hnow : t'.clock.now = t.clock.now)
    (hout : t'.out.capture = t.out.capture) : State.forced code s' t' := by
  unfold State.forced State.queued at *
  rw [hacq, hrun, honline, hport, hrun', hport', hnow, hout]
  exact h

/-- The Run Controller's banks, and but where a FORCE joins it the queue, stay (R87). -/
theorem State.forceTrigger_run (s : State) :
    s.forceTrigger.1.run.banks = s.run.banks
      ∧ (s.table.acquire.acqState ≠ .ready ∨ s.run.forceOrigin ≠ .none → s.forceTrigger.1.run.queue = s.run.queue) := by
  rcases s.forceTrigger_cases with ⟨x, hready, hnone, -, h⟩ | ⟨-, -, h⟩ | ⟨code, h⟩
  · rw [h]
    refine ⟨rfl, fun hother => ?_⟩
    rcases hother with hother | hother
    · exact absurd hready hother
    · exact absurd hnone hother
  · rw [h]
    exact ⟨rfl, fun _ => rfl⟩
  · rw [h]
    exact ⟨rfl, fun _ => rfl⟩

/-- A step that writes the Run Controller and answers. -/
theorem State.forceTrigger_sameBut {s : State} (code : ReplyCode) :
    s.sameBut [.run, .link] (s.begin.forceTrigger.1.closeRequest 0x09 (bare code)) := by
  simp [State.sameBut, State.closeRequest]

/-- Settles O28. -/
theorem forceByRunControllerState : Obligations.ForceByRunControllerState := by
  intro s hasks
  have hexec := exec_closes (c := .force) (row := ⟨.force, none, forceRequest⟩) (body := []) rfl hasks
  have hforced := State.forceTrigger_forced (s := s.begin) rfl
  obtain ⟨hbanks, hqueue⟩ := s.begin.forceTrigger_run
  have hsent := s.begin.forceTrigger.1.pump_of_no_reduce
  refine ⟨_, s.begin.forceTrigger.2, hexec, State.closeRequest_answered _ _ _,
    hforced.congr rfl rfl rfl rfl rfl rfl rfl rfl, ?_, ?_, fun hstay => ⟨?_, fun hempty hwaiting => ?_⟩, fun hwaiting => ?_,
    fun hbusy => ?_⟩
  · simp [forceRequest, hbanks]
  · simp [forceRequest, State.sameBut, State.closeRequest]
  · have hq := State.pump_queued s.begin.forceTrigger.1 s.run.queue (hqueue hstay) (by simp [noOutputs])
    exact State.queued_of_eq hq (by simp) (by simp) rfl rfl rfl rfl
  · have hpump := s.begin.forceTrigger.1.pump_of_nothing ((hqueue hstay).trans hempty) (by simpa using hwaiting)
    simp only [forceRequest, List.isEmpty_nil, if_true, hpump]
    exact ⟨(hqueue hstay).trans hempty, State.forceTrigger_sameBut _⟩
  · obtain ⟨hcomposer, hport⟩ := hsent (by simpa using hwaiting)
    simp only [forceRequest, List.isEmpty_nil, if_true, State.closeRequest_frame]
    exact ⟨by simpa using hcomposer, by simpa using hport⟩
  · have hpump := s.begin.forceTrigger.1.pump_of_not_free (by simpa using hbusy)
    simp only [forceRequest, List.isEmpty_nil, if_true, hpump]
    exact State.forceTrigger_sameBut _

/-! ## DEFAULTS (R43) -/

/-- Factory defaults at once (R4, R43): the event of owner defaults, and DONE unless there was nothing to alter or to retire. -/
theorem State.defaultsNow_effect (s : State) :
    (alteredRefs s.table (factoryDraft s.table) = [] ∧ s.table.dynamicKeys = [] → s.defaultsNow = (s, .doneNoEffect))
      ∧ (¬ (alteredRefs s.table (factoryDraft s.table) = [] ∧ s.table.dynamicKeys = []) → s.defaultsNow.2 = .done)
      ∧ s.defaultsNow.1.table.settings = (eventTable .defaults (factoryDraft s.table) s.table).settings
      ∧ s.defaultsNow.1.engine = s.engine := by
  have hiff : ((alteredRefs s.table (factoryDraft s.table)).isEmpty && (factoryDraft s.table).retired.isEmpty) = true
      ↔ alteredRefs s.table (factoryDraft s.table) = [] ∧ s.table.dynamicKeys = [] := by
    simp only [Bool.and_eq_true, List.isEmpty_iff]
    rfl
  unfold State.defaultsNow State.factoryDefaults
  dsimp only
  refine ⟨fun hnothing => ?_, fun hsomething => ?_, s.commit_settings .defaults (factoryDraft s.table), by simp⟩
  · have hplanned : (factoryDraft s.table).planned s.table = factoryDraft s.table :=
      Draft.planned_of_no_plan (by rw [hnothing.1]; rfl)
    have hcommit : s.commit .defaults (factoryDraft s.table) = s :=
      s.commit_of_nothing .defaults (factoryDraft s.table) (by rw [hplanned, hnothing.1]) rfl hnothing.2
    rw [if_pos (hiff.2 hnothing), hcommit]
  · rw [if_neg (mt hiff.1 hsomething)]

/-- What R43 and R144 read of an operation that begins. -/
theorem State.beginOp_begun (st : StoreState) (o : OpInHand) (phase : Option Phase) (s : State) :
    (s.beginOp st o phase).table.system.storeState = st ∧ (s.beginOp st o phase).table.settings = s.table.settings
      ∧ (s.beginOp st o phase).engine.op = some o ∧ (s.beginOp st o phase).engine.phase = phase := by
  obtain ⟨htable, hengine⟩ := s.beginOp_effect st o phase
  refine ⟨?_, by simp, ?_, ?_⟩
  · rw [htable]
  · rw [hengine]
  · rw [hengine]

/-- DEFAULTS taken is the outcome of R43 that the engine's state and slot 31 give. -/
theorem State.takeDefaults_defaulted (s : State) : State.defaulted s.takeDefaults.2 s.table s s.takeDefaults.1 := by
  obtain ⟨hnothing, hsomething, hsettings, hengine⟩ := s.defaultsNow_effect
  have hcode : s.defaultsNow.2 = if alteredRefs s.table (factoryDraft s.table) = [] ∧ s.table.dynamicKeys = [] then .doneNoEffect else .done := by
    split
    · rw [hnothing (by assumption)]
    · exact hsomething (by assumption)
  have hbegun := s.beginOp_begun .recalling { op := .defaults, slot := 31, mask := .all } (some .read)
  unfold State.takeDefaults State.defaulted
  clear hnothing hsomething
  generalize s.defaultsNow = now at *
  generalize s.beginOp .recalling { op := .defaults, slot := 31, mask := .all } (some .read) = begun at *
  cases s.table.system.storeState <;> cases s.engine.slotValid 31 <;> simp [hcode, hsettings, hengine, hbegun]

/-- What R43 says of DEFAULTS reads the storage state, the engine and the settings alone. -/
theorem State.defaulted.congr {code : ReplyCode} {t0 : Table} {s s' t t' : State} (h : State.defaulted code t0 s t)
    (hstate : s'.table.system.storeState = s.table.system.storeState) (hengine : s'.engine = s.engine)
    (hengine' : t'.engine = t.engine) (htable : code ≠ .busy → t'.table = t.table)
    (hbusy : code = .busy → t'.table.settings = s'.table.settings) : State.defaulted code t0 s' t' := by
  unfold State.defaulted at *
  rw [hstate, hengine, hengine']
  by_cases hcode : code = .busy
  · have hnever (p : Prop) [Decidable p] : ReplyCode.busy ≠ (if p then .doneNoEffect else .done) := by split <;> decide
    subst hcode
    revert h
    cases s.table.system.storeState <;> cases s.engine.slotValid 31 <;> simp [hnever, hbusy]
  · rw [htable hcode]
    revert h
    cases s.table.system.storeState <;> cases s.engine.slotValid 31 <;> simp [hcode]

/-- DEFAULTS that is BUSY does nothing (R43). -/
theorem State.takeDefaults_eq_busy {s : State} (h : s.takeDefaults.2 = .busy) : s.takeDefaults = (s, .busy) := by
  rcases s.takeDefaults_busy with hbusy | hother
  · exact hbusy
  · rw [h] at hother
    exact absurd (show ReplyCode.busy ∈ ReplyCode.refusals by decide) hother

/-- Settles O27. -/
theorem defaultsByEngineState : Obligations.DefaultsByEngineState := by
  intro s hasks busy
  have hexec := exec_closes (c := .defaults) (row := ⟨.defaults, none, defaultsRequest⟩) (body := []) rfl hasks
  refine ⟨fun hstate => ?_, fun hidle hvalid => ?_, fun hstate => ?_⟩
  · have htake : s.begin.takeDefaults = (s.begin, .busy) := by
      unfold State.takeDefaults
      rcases hstate with h | ⟨h | h | h, hvalid⟩ <;> simp_all
    refine exec_answers (c := .defaults) (row := ⟨.defaults, none, defaultsRequest⟩) (body := []) rfl hasks ?_
    simp [defaultsRequest, htake]
  · have htake : defaultsRequest [] s.begin =
        (s.begin.beginOp .recalling { op := .defaults, slot := 31, mask := .all } (some .read), bare .started) := by
      simp [defaultsRequest, State.takeDefaults, hidle, hvalid]
    obtain ⟨t, hexec, hanswer, hstate, hop, hphase, -, -, hsettings, hflash⟩ :=
      exec_beginsOp (c := .defaults) (row := ⟨.defaults, none, defaultsRequest⟩) (body := [])
        rfl hasks htake rfl (.inr ⟨rfl, rfl, rfl⟩)
    exact ⟨t, hexec, hanswer, hstate, hop, hphase, hflash, hsettings⟩
  · have htake : s.begin.takeDefaults = s.begin.defaultsNow := by
      unfold State.takeDefaults
      rcases hstate with h | ⟨h | h | h | h, hvalid⟩ <;> simp_all
    have hblock : defaultsRequest [] s.begin = (s.begin.defaultsNow.1, bare s.begin.defaultsNow.2) := by
      simp [defaultsRequest, htake]
    have hnow := s.begin.defaultsNow_effect
    simp only [State.begin_table] at hnow
    obtain ⟨hnothing, hsomething, hsettings, hengine⟩ := hnow
    dsimp only at hexec
    rw [hblock] at hexec
    clear hblock htake
    generalize s.begin.defaultsNow = now at *
    refine ⟨_, hexec, hsettings, hengine, fun hsome => ?_, fun ha hr => ?_⟩
    · rw [hsomething fun ⟨ha, hr⟩ => hsome.elim (fun h => h ha) (fun h => h hr)]
      exact State.closeRequest_answered _ _ _
    · rw [hnothing ⟨ha, hr⟩]
      exact ⟨State.closeRequest_answered _ _ _, State.closeRequest_sameBut _ _ s⟩

/-! ## Intents (R17, R18) -/

theorem findKey_eq_none_iff {α : Type} {k : RecKey} {l : List (RecKey × α)} : findKey k l = none ↔ ∀ p ∈ l, p.1 ≠ k := by
  induction l with
  | nil => simp [findKey]
  | cons p l ih =>
    obtain ⟨x, v⟩ := p
    simp only [findKey]
    by_cases hk : k = x
    · simp [hk]
    · simp [hk, ih, Ne.symm hk]

theorem dropIntents_no_intent {o : Owner} {altered : List Ref} {t : Table} {k : RecKey} (h : findKey k t.intents = none) :
    findKey k (dropIntents o altered t).intents = none := by
  rw [findKey_eq_none_iff] at h ⊢
  unfold dropIntents
  split
  · intro p hp
    exact h p (List.mem_of_mem_filter hp)
  · exact h

theorem stampEvent_no_intent {altered : List Ref} {d : Draft} {k : RecKey} (h : k ∈ d.retired ∨ findKey k d.table.intents = none) :
    findKey k (stampEvent altered d).intents = none := by
  obtain ⟨-, hretired, hother⟩ := foldl_forget d.retired d.table
  have hforget : findKey k (d.retired.foldl (fun t k => t.forget k) d.table).intents = none := by
    by_cases hk : k ∈ d.retired
    · exact (hretired k hk).2.2.2
    · exact (hother k hk).2.2.2.trans (h.resolve_left hk)
  unfold stampEvent
  dsimp only
  split
  · exact hforget
  · obtain ⟨-, hintents, -⟩ := foldl_mark (nextStamp (d.retired.foldl (fun t k => t.forget k) d.table).counter)
      (touchedKeys altered d.created) { (d.retired.foldl (fun t k => t.forget k) d.table) with
        counter := nextStamp (d.retired.foldl (fun t k => t.forget k) d.table).counter }
    rw [hintents]
    exact hforget

/-- An event leaves no intent on a record it retires, and sets none (R4, R10, R18). -/
theorem eventTable_no_intent (o : Owner) {d : Draft} {t : Table} {k : RecKey} (hd : d.table.intents = t.intents)
    (h : k ∈ d.retired ∨ findKey k t.intents = none) : findKey k (eventTable o d t).intents = none := by
  by_cases hnothing : alteredRefs t (d.planned t) = [] ∧ d.created = [] ∧ d.retired = []
  · obtain ⟨ha, hc, hr⟩ := hnothing
    rw [eventTable_of_nothing o d t ha hc hr]
    rw [hr] at h
    exact h.resolve_left (by simp)
  · have hintents : (d.planned t).table.intents = t.intents := by
      rw [← hd]
      unfold Draft.planned
      split <;> rfl
    rw [eventTable_of_something o d t hnothing]
    exact dropIntents_no_intent (stampEvent_no_intent (by rwa [Draft.planned_retired, hintents]))

end Sys2Proof.Machine

/-! What the link's AMEND, CREATE, RETIRE and INTENT leave (R7, R9, R10, R17, R18). -/

namespace Sys2Proof.Machine

/-! ## An event that alters a field -/

theorem Draft.mem_alteredRefs_planned {t : Table} {d : Draft} {r : Ref} (hrefs : r ∈ d.table.refs) (hstamped : r.field.stamped = true)
    (hkind : r.field.kind ≠ .derived) (hcreated : r.key ∉ d.created) (hne : t.get r ≠ d.table.get r) :
    r ∈ alteredRefs t (d.planned t) := by
  rw [mem_alteredRefs, Draft.planned_created]
  unfold Draft.planned
  split
  · exact ⟨hrefs, hstamped, hcreated, by rwa [writeDerived_get _ _ hkind]⟩
  · exact ⟨hrefs, hstamped, hcreated, hne⟩

/-- An event that alters a stamped field of a record advances the counter, and stamps and marks the record (R4, R5). -/
theorem eventTable_alters (o : Owner) {t : Table} {d : Draft} {r : Ref} (hd : d.table.ledger = t.ledger) (hrefs : r ∈ d.table.refs)
    (hstamped : r.field.stamped = true) (hkind : r.field.kind ≠ .derived) (hcreated : r.key ∉ d.created)
    (hne : t.get r ≠ d.table.get r) :
    ¬ (alteredRefs t (d.planned t) = [] ∧ d.created = [] ∧ d.retired = [])
      ∧ (eventTable o d t).counter = nextStamp t.counter ∧ (eventTable o d t).stampOf r.key = nextStamp t.counter
      ∧ r.key ∈ (eventTable o d t).changeSet := by
  have hc : d.table.counter = t.counter := congrArg (·.1) hd
  have hs : d.table.stamps = t.stamps := congrArg (·.2.1) hd
  have hch : d.table.changeSet = t.changeSet := congrArg (·.2.2.1) hd
  have hre : d.table.retired = t.retired := congrArg (·.2.2.2.1) hd
  have haltered := d.mem_alteredRefs_planned hrefs hstamped hkind hcreated hne
  have htouched : r.key ∈ touchedKeys (alteredRefs t (d.planned t)) d.created := mem_touchedKeys.2 (.inl ⟨r, haltered, rfl⟩)
  obtain ⟨hstamp, hchange, -⟩ := (eventTable_marks o hc hs hch hre r.key).1 htouched
  refine ⟨fun hnothing => List.ne_nil_of_mem haltered hnothing.1, ?_, by rw [Table.stampOf, hstamp, Option.getD_some], hchange⟩
  rw [eventTable_counter o hc, if_neg (List.ne_nil_of_mem htouched)]

/-- A draft that leaves every field as it is alters nothing. -/
theorem State.commit_self (o : Owner) (s : State) : s.commit o (Draft.of s.table) = s := by
  have hnothing : alteredRefs s.table (Draft.of s.table) = [] := by
    simp [alteredRefs, Draft.of]
  have hplanned : (Draft.of s.table).planned s.table = Draft.of s.table := Draft.planned_of_no_plan (by rw [hnothing]; rfl)
  exact s.commit_of_nothing o _ (by rw [hplanned, hnothing]) rfl rfl

/-- What tables with the same settings share. -/
theorem Table.reads_of_settings {t u : Table} (h : t.settings = u.settings) :
    t.counter = u.counter ∧ t.stamps = u.stamps ∧ t.changeSet = u.changeSet ∧ t.retired = u.retired ∧ t.intents = u.intents
      ∧ t.display = u.display ∧ t.panel = u.panel := by
  have hcounter := congrArg Table.counter h
  have hstamps := congrArg Table.stamps h
  have hchange := congrArg Table.changeSet h
  have hretired := congrArg Table.retired h
  have hintents := congrArg Table.intents h
  have hdisplay := congrArg Table.display h
  have hpanel := congrArg Table.panel h
  exact ⟨hcounter, hstamps, hchange, hretired, hintents, hdisplay, hpanel⟩

theorem Table.stampOf_congr {t u : Table} (h : t.stamps = u.stamps) (k : RecKey) : t.stampOf k = u.stampOf k := by
  rw [Table.stampOf, Table.stampOf, h]

/-- A request whose block is one event is answered in the same step (R4, R160). -/
theorem exec_commits {s u : State} {c : Instr} {row : RequestRow} {body : List Byte} {o : Owner} {d : Draft} {r : Reply}
    (hrow : requestRow c = some row) (hasks : s.asks (row.frame body)) (hblock : row.block body s.begin = (u.commit o d, r)) :
    ∃ t, exec c s = .next t ∧ t = (u.commit o d).closeRequest row.req.byte r ∧ t.answered row.req.byte r
      ∧ t.table = (u.commit o d).table ∧ t.table.settings = (eventTable o d u.table).settings
      ∧ t.composer = (u.commit o d).composer := by
  have hexec := exec_closes hrow hasks
  have hsettings := u.commit_settings o d
  rw [hblock] at hexec
  generalize u.commit o d = v at *
  exact ⟨_, hexec, rfl, State.closeRequest_answered _ _ _, rfl, hsettings, rfl⟩

theorem State.commit_closeRequest_sameBut (o : Owner) (d : Draft) (kind : Byte) (r : Reply) (s : State) :
    s.sameBut [.table, .scanner, .lamps, .planner, .run, .port, .composer, .link, .out] ((s.begin.commit o d).closeRequest kind r) := by
  simp [State.sameBut, State.closeRequest]

/-! ## AMEND (R7) -/

/-- An AMEND that passes its checks is one event of owner link (R7). -/
theorem amendRequest_accepted {t0 : Table} {body : List Byte} {b : AmendBody} {k : RecKey} {s : State} (ht : s.table = t0)
    (hread : readAmend t0 body = .inr b) (hcheck : checkRecord t0 b.cls b.inst = .inr k)
    (hstamp : b.stamp = none ∨ b.stamp = some (t0.stampOf k)) (hrefused : itemsRefused t0 k b.items b.stop = none) :
    amendRequest body s = (s.commit .link (Draft.of (applyRecord t0 k b.items.values).1),
      eventReply t0 (applyRecord t0 k b.items.values).1 k (applyRecord t0 k b.items.values).2 (b.items.values.map (·.1))
        ((s.commit .link (Draft.of (applyRecord t0 k b.items.values).1)).table.stampOf k)) := by
  have hfresh : b.stamp.any (fun x => x != t0.stampOf k) = false := by
    rcases hstamp with h | h <;> simp [h]
  subst ht
  unfold amendRequest
  simp only [hread, hcheck, hfresh, hrefused]
  rfl

/-- Settles O21. -/
theorem amendIsOneEventOrStale : Obligations.AmendIsOneEventOrStale := by
  intro s body b k hasks hread hcheck
  refine ⟨fun hstamp hrefused => ?_, fun x hx hne => ?_⟩
  · have hblock := amendRequest_accepted s.begin_table hread hcheck hstamp hrefused
    obtain ⟨t, hexec, ht, hanswer, htable, hsettings, -⟩ :=
      exec_commits (c := .amend) (row := ⟨.amend, none, amendRequest⟩) (body := body) rfl hasks hblock
    rw [State.begin_table] at hsettings
    refine ⟨t, hexec, hsettings, ?_, ?_⟩
    · rw [htable]
      exact hanswer
    · rw [ht]
      exact State.commit_closeRequest_sameBut _ _ _ _ s
  · have hread' : readAmend s.begin.table body = .inr b := hread
    have hcheck' : checkRecord s.begin.table b.cls b.inst = .inr k := hcheck
    have hstale : b.stamp.any (fun x => x != s.begin.table.stampOf k) = true := by
      simp [hx, hne]
    refine exec_answers (c := .amend) (row := ⟨.amend, none, amendRequest⟩) (body := body) rfl hasks ?_
    simp only [amendRequest, hread', hcheck', hstale, if_true]
    rfl

/-- An item that names DISPLAY.backlight, as AMEND reads it. -/
theorem readAmend_backlight (t : Table) {n : Int} (hlow : -2 ^ 63 ≤ n) (hhigh : n < 2 ^ 63) :
    readAmend t ([5, 1, 0, 1, 3] ++ numberBytes n) =
      .inr { cls := 5, inst := 1, stamp := none, items := [(.diBacklight, some (.num n))], stop := .whole [] } := by
  have hvalue (u : Table) (fuel : Nat) (target : Option Ref) :
      readValue u fuel .number target (numberBytes n) = .good (.num n) [] := by
    have h := readValue_encodeValue u ⟨displayKey, .diBacklight⟩ (v := .num n) [] fuel target ⟨hlow, hhigh⟩
    simpa [encodeValue, Field.sort] using h
  have hcls : Cls.ofNumber (5 : Byte).toNat = some .display := by decide
  have hitems : readRequestItems t .display (some ⟨.display, (1 : Byte).toNat⟩) (1 : Byte).toNat (3 :: numberBytes n) =
      ([(.diBacklight, some (.num n))], .whole []) := by
    simp [readRequestItems, readItems, Cls.field, Cls.fields, Field.sort, hvalue, usesAssumed]
  simp only [List.cons_append, List.nil_append, readAmend, hcls, readStamp, if_true, hitems, ItemsEnd.readable, List.isEmpty_nil]

/-- Setting DISPLAY.backlight alone brings it into its range and settles nothing else (R35). -/
theorem applyRecord_backlight (t : Table) (n : Int) :
    (applyRecord t displayKey [(.diBacklight, .num n)]).1 =
      { t with display := { t.display with backlight := (clampTo 0 100 n).toNat } } := by
  simp [applyRecord, applyFields, displayKey, Cls.fields, Items.value, applyField, bring, fixedRange, govern, finishRecord, Table.put]
  rfl

theorem itemsRefused_backlight (t : Table) (n : Int) :
    itemsRefused t displayKey [(.diBacklight, some (.num n))] (.whole []) = none := by
  simp [itemsRefused, firstPos, readOnly, badValuePos, valueOk, valueOfSort, bindingLegal, repeatedPos, displayKey, Field.kind, Field.sort]

/-- What stages 4 to 7 of an event leave of DISPLAY and PANEL is the draft's. -/
theorem eventTable_display_panel (o : Owner) {d : Draft} {t : Table}
    (h : ¬ (alteredRefs t (d.planned t) = [] ∧ d.created = [] ∧ d.retired = [])) :
    (eventTable o d t).display = d.table.display ∧ (eventTable o d t).panel = d.table.panel := by
  have hplanned : (d.planned t).table.display = d.table.display ∧ (d.planned t).table.panel = d.table.panel := by
    unfold Draft.planned
    split <;> exact ⟨rfl, rfl⟩
  rw [eventTable_records o d t h]
  exact hplanned

/-- An AMEND of DISPLAY.backlight as the event that its value makes (R7, R35). -/
theorem amendRequest_backlight {s : State} {t0 : Table} (ht : s.table = t0) {n : Int} (hlow : -2 ^ 63 ≤ n) (hhigh : n < 2 ^ 63) :
    ∃ r, amendRequest ([5, 1, 0, 1, 3] ++ numberBytes n) s =
      (s.commit .link (Draft.of { t0 with display := { t0.display with backlight := (clampTo 0 100 n).toNat } }), r) := by
  have hcheck : checkRecord t0 5 1 = .inr displayKey :=
    checkRecord_of_has (k := displayKey) (by decide) rfl
  have hblock := amendRequest_accepted ht (readAmend_backlight t0 hlow hhigh) hcheck (.inl rfl) (itemsRefused_backlight t0 n)
  have hvalues : ReadItems.values [(.diBacklight, some (.num n))] = [(.diBacklight, .num n)] := rfl
  dsimp only at hblock
  rw [hvalues, applyRecord_backlight] at hblock
  exact ⟨_, hblock⟩

/-- Settles O22. -/
theorem amendClampsTheBacklight : Obligations.AmendClampsTheBacklight := by
  intro s n hlow hhigh hasks
  obtain ⟨r, hblock⟩ := amendRequest_backlight s.begin_table hlow hhigh
  obtain ⟨t, hexec, -, -, htable, hsettings, -⟩ := exec_commits (c := .amend) (row := ⟨.amend, none, amendRequest⟩) rfl hasks hblock
  rw [State.begin_table] at hsettings
  have hclamp : 0 ≤ clampTo 0 100 n := by
    unfold clampTo
    split <;> omega
  refine ⟨t, hexec, ?_⟩
  by_cases hheld : (s.table.display.backlight : Int) = clampTo 0 100 n
  · have hsame : ({ s.table with display := { s.table.display with backlight := (clampTo 0 100 n).toNat } } : Table) = s.table := by
      rw [← hheld, Int.toNat_natCast]
    have hcommit := State.commit_self .link s.begin
    rw [State.begin_table] at hcommit
    rw [hsame, hcommit] at htable
    refine ⟨?_, fun _ => htable, fun hne => absurd hheld hne⟩
    rw [htable, ← hheld, Int.toNat_natCast]
    rfl
  · have hnat : ((clampTo 0 100 n).toNat : Int) = clampTo 0 100 n := Int.toNat_of_nonneg hclamp
    have halters := eventTable_alters .link (t := s.table) (r := ⟨displayKey, .diBacklight⟩)
      (d := Draft.of { s.table with display := { s.table.display with backlight := (clampTo 0 100 n).toNat } })
      rfl (Table.mem_refs.2 ⟨rfl, by decide, by decide⟩) rfl (by decide) (by simp [Draft.of])
      (by simp [Table.get, Draft.of, displayKey, Field.cls, Display.get, hnat, hheld])
    obtain ⟨hsomething, hc, hs, hch⟩ := halters
    obtain ⟨hdisplay, -⟩ := eventTable_display_panel .link hsomething
    obtain ⟨hcounter, hstamps, hchange, -, -, hdisplay', -⟩ := Table.reads_of_settings hsettings
    exact ⟨hdisplay'.trans hdisplay, fun h => absurd h hheld,
      fun _ => ⟨hcounter.trans hc, (Table.stampOf_congr hstamps _).trans hs, by rw [hchange]; exact hch⟩⟩

/-! ## RETIRE (R10) -/

@[simp] theorem nthPresent_set_none {α : Type} (l : List (Option α)) (i : Nat) : nthPresent (l.set (i - 1) none) i = none := by
  unfold nthPresent nth1
  split
  · rfl
  · rw [List.getElem?_set_self']
    cases l[i - 1]? <;> rfl

theorem nthPresent_set_other {α : Type} {i j : Nat} (hj : j ≠ 0) (h : i ≠ j) (l : List (Option α)) (v : Option α) :
    nthPresent (l.set (j - 1) v) i = nthPresent l i := by
  unfold nthPresent nth1
  split
  · rfl
  · rw [List.getElem?_set_ne (by omega)]

theorem nthPresent_set_some {α : Type} {i : Nat} {l : List (Option α)} (hi : i ≠ 0) (hlen : i ≤ l.length) (v : α) :
    nthPresent (l.set (i - 1) (some v)) i = some v := by
  unfold nthPresent nth1
  rw [if_neg hi, List.getElem?_set_self (by omega)]
  rfl

/-- What RETIRE takes out is gone. -/
theorem Table.removeRecord_has {k : RecKey} (hdynamic : k.cls.dynamic = true) (t : Table) : (t.removeRecord k).has k = false := by
  obtain ⟨c, i⟩ := k
  cases c <;> simp [Cls.dynamic] at hdynamic <;> simp [Table.has, Table.removeRecord]

theorem Cls.inst_ne_zero {c : Cls} {i : Nat} (hdynamic : c.dynamic = true) (hinst : i ∈ c.instances) : i ≠ 0 := by
  rintro rfl
  cases c <;> simp [Cls.instances, Cls.dynamic] at *

/-- What RETIRE takes out is no part of any other record. -/
theorem Table.removeRecord_get {k : RecKey} (hdynamic : k.cls.dynamic = true) (hinst : k.inst ∈ k.cls.instances) (t : Table) {r : Ref}
    (h : r.key ≠ k) : (t.removeRecord k).get r = t.get r := by
  have hpos := Cls.inst_ne_zero hdynamic hinst
  obtain ⟨⟨c, i⟩, f⟩ := r
  obtain ⟨c', j⟩ := k
  have hother : c = c' → i ≠ j := by
    rintro rfl rfl
    exact h rfl
  unfold Table.removeRecord Table.get
  cases c' <;> simp only [Cls.dynamic, Bool.false_eq_true] at hdynamic <;> cases c <;>
    simp [nthPresent_set_other hpos (hother _)]

theorem Table.clearFocus_has (t : Table) (k j : RecKey) : (t.clearFocus k).has j = t.has j := by
  unfold Table.clearFocus
  (repeat' split) <;> rfl

theorem Table.clearFocus_of_other {t : Table} {k : RecKey} (h : ∀ r, t.panel.focus = some r → r.key ≠ k) : t.clearFocus k = t := by
  unfold Table.clearFocus
  split
  · exact if_neg (h _ (by assumption))
  · rfl

theorem Table.clearFocus_of_focus {t : Table} {k : RecKey} {r : Ref} (h : t.panel.focus = some r) (hk : r.key = k) :
    t.clearFocus k = { t with panel := { t.panel with focus := none } } := by
  simp only [Table.clearFocus, h, if_pos hk]

theorem Table.removeRecord_panel (t : Table) (k : RecKey) : (t.removeRecord k).panel = t.panel := by
  unfold Table.removeRecord
  split <;> rfl

/-- A RETIRE that touches no focus alters no field (R10). -/
theorem alteredRefs_retireDraft {t : Table} {k : RecKey} (hdynamic : k.cls.dynamic = true) (hinst : k.inst ∈ k.cls.instances)
    (h : ∀ r, t.panel.focus = some r → r.key ≠ k) : alteredRefs t (retireDraft t k) = [] := by
  have hfocus : (t.removeRecord k).clearFocus k = t.removeRecord k :=
    Table.clearFocus_of_other (by rwa [Table.removeRecord_panel])
  refine List.eq_nil_iff_forall_not_mem.2 fun r hr => ?_
  obtain ⟨hrefs, -, -, hne⟩ := mem_alteredRefs.1 hr
  simp only [retireDraft, hfocus] at hrefs hne
  obtain ⟨hhas, -⟩ := Table.mem_refs.1 hrefs
  refine hne (Table.removeRecord_get hdynamic hinst t fun hk => ?_).symm
  rw [hk, Table.removeRecord_has hdynamic] at hhas
  exact absurd hhas (by decide)

/-! ### The notice to the Composer -/

theorem State.statusUpdate_recompose (r : Ref) (w : Table → Table) {s : State} (h : s.composer.recompose = true) :
    (s.statusUpdate r w).composer.recompose = true := by
  unfold State.statusUpdate
  dsimp only
  split
  · exact h
  · rfl

theorem State.arm_recompose {s : State} (h : s.composer.recompose = true) : s.arm.composer.recompose = true := by
  unfold State.arm
  split
  · exact State.statusUpdate_recompose _ _ h
  · exact State.statusUpdate_recompose _ _ (State.statusUpdate_recompose _ _ h)

theorem State.handover_recompose {s : State} (h : s.composer.recompose = true) : s.handover.composer.recompose = true := by
  have habandoned : (s.onRun fun r => { r with forcePending := false, autoTimer := none }).abandon.composer.recompose = true := by
    rw [(State.abandon_frame _).2.2.2.2.2.2.1]
    exact h
  unfold State.handover
  dsimp only
  split
  · exact h
  · split
    · exact h
    · exact State.arm_recompose h
  · split
    · exact State.statusUpdate_recompose _ _ h
    · exact h
  all_goals
    split
    · exact State.statusUpdate_recompose _ _ habandoned
    · exact State.arm_recompose habandoned

theorem State.triggerUpdate_composer (before : TrigMode) (s : State) : (s.triggerUpdate before).composer = s.composer := by
  unfold State.triggerUpdate
  dsimp only
  (repeat' split) <;> rfl

theorem State.handOver_recompose (before : TrigMode) (altered : List Ref) {s : State} (h : s.composer.recompose = true) :
    (s.handOver before altered).composer.recompose = true := by
  unfold State.handOver
  split
  · rw [State.pump_recompose]
    exact State.handover_recompose h
  · split
    · rw [State.pump_recompose, State.triggerUpdate_composer]
      exact h
    · exact h

/-- An event that creates or retires a record is notified to the Composer (R4 stage 8). -/
theorem State.commit_recompose (o : Owner) {d : Draft} (s : State) (h : d.created ≠ [] ∨ d.retired ≠ []) :
    (s.commit o d).composer.recompose = true := by
  unfold State.commit
  dsimp only
  rw [if_neg (by rcases h with h | h <;> simp [h])]
  unfold State.notify
  dsimp only
  rw [if_pos (by rcases h with h | h <;> simp [h])]
  exact State.handOver_recompose _ _ rfl

theorem Table.has_of_settings {t u : Table} (h : t.settings = u.settings) (k : RecKey) : t.has k = u.has k := by
  have hhas := congrArg (fun t => t.has k) h
  exact hhas

/-- The records that exist after an event are the draft's. -/
theorem eventTable_has (o : Owner) {d : Draft} {t : Table}
    (h : ¬ (alteredRefs t (d.planned t) = [] ∧ d.created = [] ∧ d.retired = [])) (k : RecKey) :
    (eventTable o d t).has k = d.table.has k := by
  have hplanned : (d.planned t).table.has k = d.table.has k := by
    unfold Draft.planned
    split
    · exact writeDerived_has _ _ k
    · rfl
  rw [eventTable_records o d t h, ← hplanned]
  rfl

theorem retireDraft_has {t : Table} {k : RecKey} (hdynamic : k.cls.dynamic = true) : (retireDraft t k).table.has k = false :=
  (Table.clearFocus_has _ k k).trans (t.removeRecord_has hdynamic)

/-- The marks that a RETIRE leaves (R10 to R12). -/
theorem eventTable_retire_marks {t : Table} {k : RecKey} (hdynamic : k.cls.dynamic = true) :
    k ∉ (eventTable .link (retireDraft t k) t).changeSet ∧ k ∈ (eventTable .link (retireDraft t k) t).retired
      ∧ findKey k (eventTable .link (retireDraft t k) t).stamps = none := by
  obtain ⟨hledger, -⟩ := retireDraft_lawful t k
  have hc : (retireDraft t k).table.counter = t.counter := congrArg (·.1) hledger
  have hs : (retireDraft t k).table.stamps = t.stamps := congrArg (·.2.1) hledger
  have hch : (retireDraft t k).table.changeSet = t.changeSet := congrArg (·.2.2.1) hledger
  have hre : (retireDraft t k).table.retired = t.retired := congrArg (·.2.2.2.1) hledger
  have huntouched : k ∉ touchedKeys (alteredRefs t ((retireDraft t k).planned t)) (retireDraft t k).created := by
    rw [mem_touchedKeys]
    rintro (⟨r, hr, rfl⟩ | hcreated)
    · obtain ⟨hrefs, -⟩ := mem_alteredRefs.1 hr
      obtain ⟨hhas, -⟩ := Table.mem_refs.1 hrefs
      have hgone : ((retireDraft t r.key).planned t).table.has r.key = false := by
        unfold Draft.planned
        split
        · exact (writeDerived_has _ _ _).trans (retireDraft_has hdynamic)
        · exact retireDraft_has hdynamic
      rw [hgone] at hhas
      exact absurd hhas (by decide)
    · exact absurd hcreated (by simp [retireDraft])
  obtain ⟨hstamp, hchange, hretired⟩ := (eventTable_marks .link hc hs hch hre k).2.1 huntouched (List.mem_singleton_self k)
  exact ⟨hchange, hretired, hstamp⟩

/-- Settles O24. -/
theorem retireTakesTheRecordOut : Obligations.RetireTakesTheRecordOut := by
  intro s k hdynamic hinst hhas hasks
  have hblock : retireRequest (keyBytes k) s.begin = (s.begin.commit .link (retireDraft s.table k), bare .done) := by
    simp only [retireRequest, State.begin_table, readKey_of_has _ hinst hhas, if_pos hdynamic]
  obtain ⟨t, hexec, -, hanswer, -, hsettings, hcomposer⟩ :=
    exec_commits (c := .retire) (row := ⟨.retire, none, retireRequest⟩) (body := keyBytes k) rfl hasks hblock
  rw [State.begin_table] at hsettings
  have hrecompose := s.begin.commit_recompose .link (d := retireDraft s.table k) (.inr (List.cons_ne_nil _ _))
  rw [← hcomposer] at hrecompose
  have hsomething : ¬ (alteredRefs s.table ((retireDraft s.table k).planned s.table) = [] ∧ (retireDraft s.table k).created = []
      ∧ (retireDraft s.table k).retired = []) := fun h => absurd h.2.2 (List.cons_ne_nil _ _)
  obtain ⟨hledger, -⟩ := retireDraft_lawful s.table k
  obtain ⟨hchange, hretired, hstamp⟩ := eventTable_retire_marks (t := s.table) hdynamic
  have hintent := eventTable_no_intent .link (d := retireDraft s.table k) (t := s.table) (congrArg (·.2.2.2.2.1) hledger)
    (.inl (List.mem_singleton_self k))
  obtain ⟨-, hpanel⟩ := eventTable_display_panel .link hsomething
  obtain ⟨hcounter, hstamps, hchange', hretired', hintents, -, hpanel'⟩ := Table.reads_of_settings hsettings
  refine ⟨t, hexec, hanswer, ?_, ?_, ?_, ?_, ?_, fun hother => ⟨?_, ?_⟩, fun r hr hk => ?_, hrecompose⟩
  · rw [Table.has_of_settings hsettings, eventTable_has .link hsomething, retireDraft_has hdynamic]
  · rw [hchange']
    exact hchange
  · rw [hretired']
    exact hretired
  · rw [hintents]
    exact hintent
  · rw [hstamps]
    exact hstamp
  · rw [hpanel', hpanel, retireDraft, Table.clearFocus_of_other (by rwa [Table.removeRecord_panel]), Table.removeRecord_panel]
  · have hnothing := alteredRefs_retireDraft hdynamic hinst hother
    have hplanned : (retireDraft s.table k).planned s.table = retireDraft s.table k := Draft.planned_of_no_plan (by rw [hnothing]; rfl)
    have hcount : (retireDraft s.table k).table.counter = s.table.counter := congrArg (·.1) hledger
    have huntouched : touchedKeys [] (retireDraft s.table k).created = [] := by simp [touchedKeys, retireDraft]
    rw [hcounter, eventTable_counter .link hcount, hplanned, hnothing, if_pos huntouched]
  · have hfocus : (retireDraft s.table k).table.panel = { s.table.panel with focus := none } := by
      rw [retireDraft, Table.clearFocus_of_focus (r := r) (by rw [Table.removeRecord_panel, hr]) hk]
      dsimp only
      rw [Table.removeRecord_panel]
    obtain ⟨-, hc, hs, hch⟩ := eventTable_alters .link (r := ⟨panelKey, .paFocus⟩) hledger (Table.mem_refs.2 ⟨rfl, by decide, by decide⟩) rfl
      (by decide) (by simp [retireDraft])
      (by simp [Table.get, panelKey, Field.cls, hfocus, Panel.get, hr, ofRef])
    exact ⟨hpanel'.trans (hpanel.trans hfocus), hcounter.trans hc, (Table.stampOf_congr hstamps _).trans hs, by rw [hchange']; exact hch⟩

end Sys2Proof.Machine

/-! What CREATE and the two INTENT requests leave (R9, R17, R18). -/

namespace Sys2Proof.Machine

/-! ## The records of a table, through the stages of a request -/

@[simp] theorem nth1_modify1_isSome {α : Type} (l : List α) (n i : Nat) (f : α → α) : (nth1 (modify1 l n f) i).isSome = (nth1 l i).isSome := by
  unfold nth1 modify1
  (repeat' split) <;> simp [List.getElem?_modify]

@[simp] theorem nthPresent_modify1_isSome {α : Type} (l : List (Option α)) (n i : Nat) (f : α → α) :
    (nthPresent (modify1 l n (Option.map f)) i).isSome = (nthPresent l i).isSome := by
  unfold nthPresent nth1 modify1
  split
  · rfl
  · split
    · rfl
    · rw [List.getElem?_modify]
      rcases l[i - 1]? with _ | (_ | v)
      · rfl
      · simp
      · simp
        split <;> rfl

@[simp] theorem nthPresent_map_isSome {α : Type} (l : List (Option α)) (i : Nat) (f : α → α) :
    (nthPresent (l.map (Option.map f)) i).isSome = (nthPresent l i).isSome := by
  unfold nthPresent nth1
  split
  · rfl
  · rw [List.getElem?_map]
    rcases l[i - 1]? with _ | (_ | v) <;> rfl

@[simp] theorem getElem?_modify_isSome {α : Type} (l : List α) (n i : Nat) (f : α → α) : ((l.modify n f)[i]?).isSome = (l[i]?).isSome := by
  rw [List.getElem?_modify]
  cases l[i]? <;> simp

theorem Table.put_has (t : Table) (r : Ref) (v : Value) (k : RecKey) : (t.put r v).has k = t.has k := by
  obtain ⟨⟨c, i⟩, f⟩ := r
  cases c <;> unfold Table.put Table.has <;> dsimp only <;> cases k.cls <;> dsimp only <;> simp

theorem govern_has (n : Field → Bool) (old t : Table) (r : Ref) (k : RecKey) : (govern n old t r).has k = t.has k := by
  unfold govern
  (repeat' split) <;> unfold Table.has <;> cases k.cls <;> simp

theorem staleMeasurements_has (p : Measurement → Bool) (t : Table) (k : RecKey) : (staleMeasurements p t).has k = t.has k := by
  unfold staleMeasurements Table.has
  cases k.cls <;> simp

theorem carryLevel_has (n : ChannelName) (old c : Channel) (t : Table) (k : RecKey) : (carryLevel n old c t).has k = t.has k := by
  unfold carryLevel
  (repeat' split) <;> rfl

theorem finishRecord_has (old t : Table) (j k : RecKey) : (finishRecord old t j).has k = t.has k := by
  unfold finishRecord
  (repeat' split) <;> simp [staleMeasurements_has, carryLevel_has]

theorem applyFields_has (items : Items) (j : RecKey) (fs : List Field) (t : Table) (k : RecKey) :
    (applyFields items j fs t).1.has k = t.has k := by
  induction fs generalizing t with
  | nil => rfl
  | cons f fs ih =>
    unfold applyFields
    split
    · exact ih t
    · rw [ih, applyField, govern_has, Table.put_has]

/-- No value that a request writes makes or takes out a record. -/
theorem applyRecord_has (t : Table) (j : RecKey) (items : Items) (k : RecKey) : (applyRecord t j items).1.has k = t.has k :=
  (finishRecord_has t _ j k).trans (applyFields_has items j _ t k)

/-! ## CREATE (R9) -/

/-- What CREATE puts in its place is there (R9). -/
theorem Table.addRecord_has {t : Table} {c : Cls} {i : Nat} (hdynamic : c.dynamic = true) (hinst : i ∈ c.instances)
    (hcursors : t.cursors.length = 4) (hmeasurements : t.measurements.length = 8) (hannotations : t.annotations.length = 8) :
    (t.addRecord ⟨c, i⟩).has ⟨c, i⟩ = true := by
  have hpos := Cls.inst_ne_zero hdynamic hinst
  cases c <;> simp [Cls.dynamic] at hdynamic <;> simp [Cls.instances] at hinst
  case cursor =>
    have hlen : i ≤ t.cursors.length := by omega
    simp [Table.has, Table.addRecord, nthPresent_set_some hpos hlen]
  case measurement =>
    have hlen : i ≤ t.measurements.length := by omega
    simp [Table.has, Table.addRecord, nthPresent_set_some hpos hlen]
  case annotation =>
    have hlen : i ≤ t.annotations.length := by omega
    simp [Table.has, Table.addRecord, nthPresent_set_some hpos hlen]

/-- The number that a CREATE gives its record is one that the class has. -/
theorem roomFor_instances {t : Table} {c : Cls} {i : Nat} (h : roomFor t c = .inr i) : i ∈ c.instances := by
  unfold roomFor at h
  (repeat' split at h) <;> simp only [reduceCtorEq, Sum.inr.injEq] at h
  subst h
  rename_i hfree
  exact List.mem_of_find?_eq_some hfree

/-- The draft of a CREATE. -/
def createDraft (t : Table) (k : RecKey) (items : Items) : Draft :=
  { table := (applyRecord (t.addRecord k) k items).1, created := [k], retired := [] }

/-- The answer of a CREATE whose event leaves the record a stamp. -/
def createReply (t : Table) (k : RecKey) (items : Items) (stamp : Stamp) : Reply :=
  { code := .done
    body := byte k.inst :: (stampBytes stamp
      ++ requestedBytes (t.addRecord k) (applyRecord (t.addRecord k) k items).1 k (applyRecord (t.addRecord k) k items).2 (items.map (·.1))) }

theorem createRecord_eq (k : RecKey) (items : Items) (s : State) :
    createRecord k items s = (s.commit .link (createDraft s.table k items),
      createReply s.table k items ((s.commit .link (createDraft s.table k items)).table.stampOf k)) := rfl

/-- A CREATE that passes its checks (R9). -/
theorem createRequest_accepted {s : State} {t : Table} (ht : s.table = t) {c : Cls} {i : Nat} {count : Byte} {rest : List Byte}
    (hdynamic : c.dynamic = true) (hroom : roomFor t c = .inr i)
    (hreadable : (readRequestItems t c none count.toNat rest).2.readable = true)
    (hrefused : itemsRefused t ⟨c, 1⟩ (readRequestItems t c none count.toNat rest).1 (readRequestItems t c none count.toNat rest).2 = none) :
    createRequest (byte c.number :: count :: rest) s =
      createRecord ⟨c, i⟩ (readRequestItems t c none count.toNat rest).1.values s := by
  subst ht
  simp only [createRequest, Cls.ofNumber_number, hreadable, hdynamic, hrefused, hroom, Bool.not_true, Bool.false_eq_true, if_false]

/-- The counter, the stamp and the marks that a CREATE leaves (R9, R11, R12). -/
theorem eventTable_create {t : Table} {k : RecKey} (hdynamic : k.cls.dynamic = true) (items : Items) :
    (eventTable .link (createDraft t k items) t).counter = nextStamp t.counter
      ∧ (eventTable .link (createDraft t k items) t).stampOf k = nextStamp t.counter
      ∧ k ∈ (eventTable .link (createDraft t k items) t).changeSet ∧ k ∉ (eventTable .link (createDraft t k items) t).retired := by
  obtain ⟨hledger, -⟩ := createDraft_lawful t k items hdynamic
  have hc : (createDraft t k items).table.counter = t.counter := congrArg (·.1) hledger
  have hs : (createDraft t k items).table.stamps = t.stamps := congrArg (·.2.1) hledger
  have hch : (createDraft t k items).table.changeSet = t.changeSet := congrArg (·.2.2.1) hledger
  have hre : (createDraft t k items).table.retired = t.retired := congrArg (·.2.2.2.1) hledger
  have htouched : k ∈ touchedKeys (alteredRefs t ((createDraft t k items).planned t)) (createDraft t k items).created :=
    mem_touchedKeys.2 (.inr (List.mem_singleton_self k))
  obtain ⟨hstamp, hchange, hretired⟩ := (eventTable_marks .link hc hs hch hre k).1 htouched
  refine ⟨?_, by rw [Table.stampOf, hstamp, Option.getD_some], hchange, hretired⟩
  rw [eventTable_counter .link hc, if_neg (List.ne_nil_of_mem htouched)]

theorem applyFields_nil (k : RecKey) (fs : List Field) (t : Table) : applyFields [] k fs t = (t, []) := by
  induction fs with
  | nil => rfl
  | cons f fs ih => exact ih

/-- A request that names no field writes nothing. -/
theorem applyRecord_nil {t : Table} {k : RecKey} (hdynamic : k.cls.dynamic = true) : (applyRecord t k []).1 = t := by
  obtain ⟨c, i⟩ := k
  rw [applyRecord, applyFields_nil]
  cases c <;> simp [Cls.dynamic] at hdynamic <;> rfl

theorem readRequestItems_zero (t : Table) (c : Cls) (rest : List Byte) : (readRequestItems t c none 0 rest).1 = [] := by
  simp [readRequestItems, readItems, usesAssumed]

/-- The dynamic records that an event leaves are its draft's. -/
theorem eventTable_dynamic (o : Owner) {d : Draft} {t : Table}
    (h : ¬ (alteredRefs t (d.planned t) = [] ∧ d.created = [] ∧ d.retired = [])) :
    (eventTable o d t).cursors = d.table.cursors ∧ (eventTable o d t).measurements = d.table.measurements
      ∧ (eventTable o d t).annotations = d.table.annotations := by
  have hplanned : (d.planned t).table.cursors = d.table.cursors ∧ (d.planned t).table.measurements = d.table.measurements
      ∧ (d.planned t).table.annotations = d.table.annotations := by
    unfold Draft.planned
    split <;> exact ⟨rfl, rfl, rfl⟩
  rw [eventTable_records o d t h]
  exact hplanned

theorem Table.dynamic_of_settings {t u : Table} (h : t.settings = u.settings) :
    t.cursors = u.cursors ∧ t.measurements = u.measurements ∧ t.annotations = u.annotations := by
  have hcursors := congrArg Table.cursors h
  have hmeasurements := congrArg Table.measurements h
  have hannotations := congrArg Table.annotations h
  exact ⟨hcursors, hmeasurements, hannotations⟩

/-- Settles O23. -/
theorem createMakesTheRecord : Obligations.CreateMakesTheRecord := by
  intro s c i count rest hdynamic hroom hcursors hmeasurements hannotations hasks items hreadable hrefused a
  have hblock := (createRequest_accepted s.begin_table hdynamic hroom hreadable hrefused).trans (createRecord_eq _ _ _)
  rw [State.begin_table] at hblock
  obtain ⟨t, hexec, -, hanswer, htable, hsettings, -⟩ :=
    exec_commits (c := .create) (row := ⟨.create, none, createRequest⟩) rfl hasks hblock
  rw [State.begin_table] at hsettings
  have hsomething : ¬ (alteredRefs s.table ((createDraft s.table ⟨c, i⟩ items.1.values).planned s.table) = []
      ∧ (createDraft s.table ⟨c, i⟩ items.1.values).created = [] ∧ (createDraft s.table ⟨c, i⟩ items.1.values).retired = []) :=
    fun h => absurd h.2.1 (List.cons_ne_nil _ _)
  obtain ⟨hc, hs, hch, hre⟩ := eventTable_create (t := s.table) (k := ⟨c, i⟩) hdynamic items.1.values
  obtain ⟨hcounter, hstamps, hchange, hretired, -⟩ := Table.reads_of_settings hsettings
  have hstamp : t.table.stampOf ⟨c, i⟩ = nextStamp s.table.counter := (Table.stampOf_congr hstamps _).trans hs
  refine ⟨t, hexec, hsettings, ?_, hcounter.trans hc, hstamp, ?_, ?_, ?_, ?_⟩
  · have hadded := Table.addRecord_has hdynamic (roomFor_instances hroom) hcursors hmeasurements hannotations
    rw [Table.has_of_settings hsettings, eventTable_has .link hsomething, createDraft, applyRecord_has]
    exact hadded
  · rw [hchange]
    exact hch
  · rw [hretired]
    exact hre
  · rw [← htable, hstamp] at hanswer
    exact hanswer
  · rintro rfl
    have hvalues : items.1.values = [] := by
      have hnone := readRequestItems_zero s.table c rest
      exact congrArg ReadItems.values hnone
    have hdraft : (createDraft s.table ⟨c, i⟩ items.1.values).table = s.table.addRecord ⟨c, i⟩ := by
      rw [hvalues]
      exact applyRecord_nil hdynamic
    obtain ⟨hcu, hme, han⟩ := Table.dynamic_of_settings hsettings
    obtain ⟨hcu', hme', han'⟩ := eventTable_dynamic .link hsomething
    rw [hdraft] at hcu' hme' han'
    exact ⟨hcu.trans hcu', hme.trans hme', han.trans han'⟩

/-! ## INTENT (R17, R18) -/

theorem readIntent_of_intent {t : Table} {k : RecKey} {i : Intent} (hinst : k.inst ∈ k.cls.instances) (hhas : t.has k = true)
    (hi : findKey k t.intents = some i) : readIntent t (keyBytes k) = .inr (k, i) := by
  simp only [readIntent, readKey_of_has _ hinst hhas, hi]

/-- An accepted intent that is no FORCE and no DEFAULTS is one event of owner panel (R17). -/
theorem acceptIntent_event {k : RecKey} {i : Intent} {t0 : Table} (hforce : i.kind ≠ .key .force) (hdefaults : i.kind ≠ .key .defaults)
    {s : State} (ht : (s.removeIntent k).table = t0) :
    acceptIntent k i s = ((s.removeIntent k).commit .panel (Draft.of (intentWrite t0 k i).1),
      eventReply t0 (intentWrite t0 k i).1 k (intentWrite t0 k i).2 [i.field]
        (((s.removeIntent k).commit .panel (Draft.of (intentWrite t0 k i).1)).table.stampOf k)) := by
  subst ht
  unfold acceptIntent
  dsimp only
  split
  · exact absurd (by assumption) hforce
  · exact absurd (by assumption) hdefaults
  · rfl

theorem acceptIntent_force {k : RecKey} {i : Intent} (h : i.kind = .key .force) (s : State) :
    acceptIntent k i s = ((s.removeIntent k).forceTrigger.1.pump, bare (s.removeIntent k).forceTrigger.2) := by
  simp only [acceptIntent, h]

theorem acceptIntent_defaults {k : RecKey} {i : Intent} (h : i.kind = .key .defaults) (s : State) :
    acceptIntent k i s = if (s.removeIntent k).takeDefaults.2 = .busy then (s, bare .busy)
      else ((s.removeIntent k).takeDefaults.1, bare (s.removeIntent k).takeDefaults.2) := by
  simp only [acceptIntent, h]

/-- The answer of a FORCE by the Run Controller's state (R87). -/
theorem State.forceTrigger_code (s : State) :
    s.forceTrigger.2 = match s.table.acquire.acqState with
      | .stopped | .offline => .notArmed
      | .triggered => .doneNoEffect
      | .arming | .waitBank => if s.run.forcePending then .doneNoEffect else .done
      | .ready => if s.run.forceOrigin = .none ∧ (s.run.banks.find .filling).isSome then .done else .doneNoEffect := by
  unfold State.forceTrigger
  cases s.table.acquire.acqState <;> dsimp only
  case arming => split <;> rfl
  case waitBank => split <;> rfl
  case ready =>
    by_cases horigin : s.run.forceOrigin = .none
    · cases hfind : s.run.banks.find .filling <;> simp [horigin]
    · simp [horigin]

/-- DEFAULTS does nothing, applies the factory defaults at once, or begins a recall (R43). -/
theorem State.takeDefaults_state (s : State) :
    s.takeDefaults.1 = s ∨ s.takeDefaults.1 = s.factoryDefaults
      ∨ s.takeDefaults.1 = s.beginOp .recalling { op := .defaults, slot := 31, mask := .all } (some .read) := by
  have hnow : s.defaultsNow.1 = s.factoryDefaults := by
    simp only [State.defaultsNow]
  unfold State.takeDefaults
  split
  · exact .inl rfl
  · exact .inr (.inl hnow)
  · split
    · exact .inr (.inr rfl)
    · exact .inr (.inl hnow)
  all_goals
    split
    · exact .inl rfl
    · exact .inr (.inl hnow)

/-- DEFAULTS sets no intent (R43). -/
theorem State.takeDefaults_no_intent {s : State} {k : RecKey} (h : findKey k s.table.intents = none) :
    findKey k s.takeDefaults.1.table.intents = none := by
  have hnow : findKey k s.factoryDefaults.table.intents = none := by
    obtain ⟨-, -, -, -, hintents, -⟩ := Table.reads_of_settings (s.commit_settings .defaults (factoryDraft s.table))
    obtain ⟨hledger, -⟩ := factoryDraft_lawful s.table
    have hevent := eventTable_no_intent .defaults (d := factoryDraft s.table) (congrArg (·.2.2.2.2.1) hledger) (.inr h)
    unfold State.factoryDefaults
    rw [hintents]
    exact hevent
  rcases s.takeDefaults_state with hsame | hevent | hbegins
  · rw [hsame]
    exact h
  · rw [hevent]
    exact hnow
  · obtain ⟨-, -, -, -, hintents, -⟩ := Table.reads_of_settings
      (s.beginOp_settings .recalling { op := .defaults, slot := 31, mask := .all } (some .read))
    rw [hbegins, hintents]
    exact h

/-- A refusal of INTENT leaves the machine as it was (R1, R17, R18). -/
theorem exec_intent_refused {s : State} {c : Instr} {sub : Byte} (hc : c = .intentAccept ∧ sub = 0 ∨ c = .intentDrop ∧ sub = 1)
    {body : List Byte} (hasks : s.asks ⟨0x07, sub :: body⟩) {code : ReplyCode} (h : readIntent s.table body = .inl (bare code)) :
    ∃ t : State, exec c s = .next t ∧ s.sameBut [.link] t ∧ t.answered 0x07 (bare code) := by
  have h' : readIntent s.begin.table body = .inl (bare code) := h
  rcases hc with ⟨rfl, rfl⟩ | ⟨rfl, rfl⟩
  · refine exec_answers (c := .intentAccept) (row := ⟨.intent, some 0, intentAcceptRequest⟩) (body := body) rfl hasks ?_
    simp only [intentAcceptRequest, h']
  · refine exec_answers (c := .intentDrop) (row := ⟨.intent, some 1, intentDropRequest⟩) (body := body) rfl hasks ?_
    simp only [intentDropRequest, h']

/-- Settles O26. -/
theorem intentsAreDroppedOrPerformed : Obligations.IntentsAreDroppedOrPerformed := by
  refine ⟨fun s k i hinst hhas hi => ?_, fun s c sub hc => ?_⟩
  · intro t0
    have hread : readIntent s.begin.table (keyBytes k) = .inr (k, i) := readIntent_of_intent (t := s.begin.table) hinst hhas hi
    refine ⟨fun hasks => ?_, fun hasks hforce hdefaults => ?_, fun hasks hforce => ?_, fun hasks hdefaults => ?_⟩
    · have hblock : intentDropRequest (keyBytes k) s.begin = (s.begin.removeIntent k, bare .done) := by
        simp only [intentDropRequest, hread]
      have hexec := exec_closes (c := .intentDrop) (row := ⟨.intent, some 1, intentDropRequest⟩) (body := keyBytes k) rfl hasks
      dsimp only at hexec
      rw [hblock] at hexec
      exact ⟨_, hexec, by simp [State.sameBut, State.closeRequest, State.removeIntent], rfl, State.closeRequest_answered _ _ _⟩
    · have hblock : intentAcceptRequest (keyBytes k) s.begin = acceptIntent k i s.begin := by
        simp only [intentAcceptRequest, hread]
      have hblock := hblock.trans (acceptIntent_event (t0 := t0) hforce hdefaults rfl)
      obtain ⟨t, hexec, -, hanswer, htable, hsettings, -⟩ :=
        exec_commits (c := .intentAccept) (row := ⟨.intent, some 0, intentAcceptRequest⟩) (body := keyBytes k) rfl hasks hblock
      refine ⟨t, hexec, hsettings, ?_⟩
      rw [htable]
      exact hanswer
    · have hblock : intentAcceptRequest (keyBytes k) s.begin =
          ((s.begin.removeIntent k).forceTrigger.1.pump, bare (s.begin.removeIntent k).forceTrigger.2) := by
        simp only [intentAcceptRequest, hread]
        exact acceptIntent_force hforce _
      have hexec := exec_closes (c := .intentAccept) (row := ⟨.intent, some 0, intentAcceptRequest⟩) (body := keyBytes k) rfl hasks
      dsimp only at hexec
      rw [hblock] at hexec
      have hforced := State.forceTrigger_forced (s := s.begin.removeIntent k) rfl
      refine ⟨_, hexec, by simp; rfl, ?_, _, State.closeRequest_answered _ _ _, hforced.congr rfl rfl rfl rfl rfl rfl rfl rfl⟩
      rw [State.forceTrigger_code]
      exact State.closeRequest_answered _ _ _
    · have hexec := exec_closes (c := .intentAccept) (row := ⟨.intent, some 0, intentAcceptRequest⟩) (body := keyBytes k) rfl hasks
      have hdefaulted := State.takeDefaults_defaulted (s.begin.removeIntent k)
      by_cases hbusy : (s.begin.removeIntent k).takeDefaults.2 = .busy
      · have hblock : intentAcceptRequest (keyBytes k) s.begin = (s.begin, bare .busy) := by
          simp only [intentAcceptRequest, hread, acceptIntent_defaults hdefaults, if_pos hbusy]
        dsimp only at hexec
        rw [hblock] at hexec
        rw [hbusy, State.takeDefaults_eq_busy hbusy] at hdefaulted
        exact ⟨_, .busy, hexec, State.closeRequest_answered _ _ _,
          hdefaulted.congr rfl rfl rfl (fun h => absurd rfl h) (fun _ => rfl),
          fun _ => State.closeRequest_sameBut _ _ s, fun h => absurd rfl h⟩
      · have hblock : intentAcceptRequest (keyBytes k) s.begin =
            ((s.begin.removeIntent k).takeDefaults.1, bare (s.begin.removeIntent k).takeDefaults.2) := by
          simp only [intentAcceptRequest, hread, acceptIntent_defaults hdefaults, if_neg hbusy]
        have hgone : findKey k (s.begin.removeIntent k).takeDefaults.1.table.intents = none :=
          State.takeDefaults_no_intent (findKey_dropKey_same k s.table.intents)
        dsimp only at hexec
        rw [hblock] at hexec
        exact ⟨_, _, hexec, State.closeRequest_answered _ _ _,
          hdefaulted.congr rfl rfl rfl (fun _ => rfl) (fun h => absurd h hbusy), fun h => absurd h hbusy, fun _ => hgone⟩
  · refine ⟨fun cls inst hcls hasks => ?_, fun cls inst hinst hasks => ?_, fun k hinst hhas hasks => ?_, fun k hinst hhas hi hasks => ?_⟩
    · exact exec_intent_refused hc hasks (by simp [readIntent, readKey, hcls])
    · exact exec_intent_refused hc hasks (by simp [readIntent, readKey, checkRecord, Cls.ofNumber_number, hinst])
    · refine exec_intent_refused hc hasks ?_
      have hcheck : checkRecord s.table (byte k.cls.number) (byte k.inst) = .inl (if k.cls = .channel then .notBuilt else .noRecord) := by
        unfold checkRecord
        rw [Cls.ofNumber_number, byte_toNat _ (Cls.instances_lt hinst)]
        simp only [List.contains_iff_mem.2 hinst, hhas, Bool.not_true, Bool.false_eq_true, if_false]
        exact (apply_ite Sum.inl _ _ _).symm
      simp [readIntent, readKey, keyBytes, Cls.ofNumber_number, hcheck]
    · exact exec_intent_refused hc hasks (by simp only [readIntent, readKey_of_has _ hinst hhas, hi])

end Sys2Proof.Machine

/-! The messages of the capture controller and the timers of the port (R81 to R98, R169). -/

namespace Sys2Proof.Machine

/-! ## Messages that are taken -/

/-- A message that the capture controller can send is handled as itself (R92). -/
theorem State.takeMessage_of_fits {m : CaptureMsg} (h : m.fits) (f : CaptureMsg → State → State) (s : State) :
    s.takeMessage f m.bytes = f m s := by
  simp only [State.takeMessage, readMessage_bytes h]

theorem exec_faultNotice (code : Byte) {s : State} (hr : s.inReset = false) :
    exec (.faultNotice (CaptureMsg.fault code).bytes) s = .next (onFault (.fault code) s.begin).settle :=
  (command_next _ s hr).trans (by rw [State.takeMessage_of_fits (m := .fault code) trivial])

theorem exec_ack {s : State} (hr : s.inReset = false) : exec (.ack CaptureMsg.ack.bytes) s = .next s.begin.takeAck.settle :=
  (command_next _ s hr).trans (by rw [State.takeMessage_of_fits (m := .ack) trivial]; rfl)

theorem exec_hello {s : State} (hr : s.inReset = false) : exec (.hello CaptureMsg.hello.bytes) s = .next s.begin.takeHello.settle :=
  (command_next _ s hr).trans (by rw [State.takeMessage_of_fits (m := .hello) trivial]; rfl)

theorem exec_prefilled {n : Nat} (h : n < 256) {s : State} (hr : s.inReset = false) :
    exec (.prefilled (CaptureMsg.prefilled n).bytes) s = .next (s.begin.onNotice n State.takePrefilled).settle :=
  (command_next _ s hr).trans (by rw [State.takeMessage_of_fits (m := .prefilled n) h]; rfl)

theorem exec_triggered {n : Nat} (h : n < 256) (forced : Bool) {s : State} (hr : s.inReset = false) :
    exec (.triggered (CaptureMsg.triggered n forced).bytes) s =
      .next (s.begin.onNotice n fun x => State.takeTriggered x forced).settle :=
  (command_next _ s hr).trans (by rw [State.takeMessage_of_fits (m := .triggered n forced) h]; rfl)

theorem exec_complete {n : Nat} (h : n < 256) {s : State} (hr : s.inReset = false) :
    exec (.complete (CaptureMsg.complete n).bytes) s = .next (s.begin.onNotice n State.takeComplete).settle :=
  (command_next _ s hr).trans (by rw [State.takeMessage_of_fits (m := .complete n) h]; rfl)

/-! ## Notices that are not taken (R83) -/

/-- A notice does nothing where it names no bank that takes notices, or where its handler does nothing (R83). -/
theorem State.onNotice_ignored {n : Nat} {f : Bank → State → State} {s : State}
    (h : (∀ x, bankOf n = some x → ¬ s.takesNotices x) ∨ ∀ x, f x s = s) : s.onNotice n f = s := by
  unfold State.onNotice State.noticeBank
  cases hn : bankOf n with
  | none => rfl
  | some x =>
    dsimp only
    rcases h with huntaken | hidle
    · have hno : ¬ ((s.run.banks.get x).state = .filling ∧ (s.run.banks.get x).armed = true ∧ s.table.acquire.acqState ≠ .offline) :=
        huntaken x hn
      rw [if_neg hno]
    · split
      · rename_i y _
        exact hidle y
      · rfl

theorem State.takeTriggered_of_other (x : Bank) (forced : Bool) {s : State} (h : s.table.acquire.acqState ≠ .arming)
    (h' : s.table.acquire.acqState ≠ .ready) : s.takeTriggered x forced = s := by
  unfold State.takeTriggered
  split
  · exact absurd (by assumption) h
  · exact absurd (by assumption) h'
  all_goals rfl

theorem State.takeComplete_of_idle (x : Bank) {s : State} (h : s.table.acquire.acqState.inFlight = false) : s.takeComplete x = s := by
  unfold State.takeComplete
  rw [h]
  rfl

/-- Settles O52. -/
theorem otherNoticesAreIgnored : Obligations.OtherNoticesAreIgnored := by
  intro s n forced hr hn untaken
  refine ⟨fun h => ⟨_, exec_prefilled hn hr, ?_⟩, fun h => ⟨_, exec_triggered hn forced hr, ?_⟩, fun h => ⟨_, exec_complete hn hr, ?_⟩⟩
  · rw [State.onNotice_ignored (s := s.begin) (h.imp id fun harming x => State.takePrefilled_of_not_arming (s := s.begin) x harming)]
    exact s.sameBut_begin_settle
  · rw [State.onNotice_ignored (s := s.begin) (h.imp id fun hstate x => State.takeTriggered_of_other (s := s.begin) x forced hstate.1 hstate.2)]
    exact s.sameBut_begin_settle
  · rw [State.onNotice_ignored (s := s.begin) (h.imp id fun hidle x => State.takeComplete_of_idle (s := s.begin) x hidle)]
    exact s.sameBut_begin_settle

/-! ## Faults of the capture controller (R97, R98) -/

/-- Settles O35. -/
theorem captureTroubleIsReported : Obligations.CaptureTroubleIsReported := by
  intro s hr
  refine ⟨fun code honline => ⟨_, exec_faultNotice code hr, ?_⟩, fun code hoffline => ⟨_, exec_faultNotice code hr, ?_⟩,
    fun due hdue => ⟨_, command_next _ s hr, ?_⟩, fun hnone => ⟨_, command_next _ s hr, ?_⟩,
    fun due hdue hoffline => ⟨_, command_next _ s hr, ?_⟩⟩
  · have hfault : onFault (.fault code) s.begin = s.begin.report .captureReported (some (.code code)) := if_pos honline
    obtain ⟨hstop, hnote⟩ := s.begin.report_inbox .captureReported (some (.code code))
    rw [hfault]
    exact ⟨by simp [State.sameBut, State.report], s.begin.report_reported _ _, hstop, hnote⟩
  · have hignored : onFault (.fault code) s.begin = s.begin := if_neg (by simp [hoffline])
    rw [hignored]
    exact s.sameBut_begin_settle
  · have hlate : s.begin.hearingLate = ({ (s.begin.arrive due) with port := { s.port with lateAt := none } } : State).report .captureLate none := by
      simp [State.hearingLate, hdue]
    rw [hlate]
    refine ⟨by simp [State.sameBut, State.report], rfl, ?_⟩
    have hreported := State.report_reported .captureLate none ({ (s.begin.arrive due) with port := { s.port with lateAt := none } } : State)
    simpa using hreported
  · have hnone : s.begin.hearingLate = s.begin := by simp [State.hearingLate, hnone]
    rw [hnone]
    exact s.sameBut_begin_settle
  · have hquery : s.begin.queryDue = (s.begin.arrive due).sendQuery := by simp [State.queryDue, hdue, hoffline]
    rw [hquery]
    simp [State.sameBut, State.sendQuery, State.sendMessage, noOutputs]

/-! ## Port failures and the auto timer (R88, R96) -/

/-- What a failure of the port leaves (R96). -/
theorem State.failPort_effect (q : PortRequest) (s : State) :
    (s.failPort q).table = { s.table with acquire := { s.table.acquire with acqState := .offline }
                                          system := { s.table.system with captureOnline := false } }
      ∧ (s.failPort q).port = { s.port with outstanding := none, waiting := none, queryAt := some (after s.clock.now 500000) }
      ∧ (s.failPort q).out = { s.out with capture := s.out.capture ++ [.query] }
      ∧ (s.failPort q).run = s.run.dropAll
      ∧ (s.failPort q).faults = (s.report .captureTimeout (some (.request q.kind))).faults
      ∧ (s.failPort q).inbox = (s.report .captureTimeout (some (.request q.kind))).inbox
      ∧ (s.port.hasReduce = true → (s.failPort q).composer.failed = true) := by
  unfold State.failPort State.failReduces
  dsimp only
  by_cases hreduce : s.port.hasReduce = true <;>
    simp [hreduce, State.sendQuery, State.sendMessage, State.reduceFailed, State.setAcqState_table, State.setCaptureOnline_table]

theorem BankEntry.drop_state (e : BankEntry) :
    (e.state = .filling ∨ e.state = .closing → e.drop.state = .free ∧ e.drop.armed = false)
      ∧ (e.state = .held ∨ e.state = .shown → e.drop = e) := by
  unfold BankEntry.drop BankEntry.free
  cases h : e.state <;> simp

@[simp] theorem Banks.drop_get (b : Banks) (x : Bank) : b.drop.get x = (b.get x).drop := by cases x <;> rfl

/-- Settles O53. -/
theorem portFailureGoesOffline : Obligations.PortFailureGoesOffline := by
  intro s q due hr hout
  have hfail : s.begin.portDeadline = (s.begin.arrive due).failPort q := by simp [State.portDeadline, hout]
  obtain ⟨htable, hport, hline, hrun, hfaults, hinbox, hfailed⟩ := (s.begin.arrive due).failPort_effect q
  have hreported := (s.begin.arrive due).report_reported .captureTimeout (some (.request q.kind))
  obtain ⟨hstops, -⟩ := (s.begin.arrive due).report_inbox .captureTimeout (some (.request q.kind))
  simp only [State.arrive_frame, State.begin_table, State.begin_port, State.begin_run, State.begin_faults, State.begin_inbox,
    State.begin_out] at htable hport hline hrun hfaults hinbox hfailed hreported hstops
  refine ⟨_, command_next _ s hr, ?_⟩
  rw [hfail]
  simp only [State.settle_table, State.settle_port, State.settle_run, State.settle_faults, State.settle_inbox, State.settle_out,
    State.settle_composer, State.settle_clock]
  refine ⟨?_, ?_, fun hstop => ?_, htable, ?_, ?_, ?_, ?_, ?_, ?_, fun x => ⟨fun hx => ?_, fun hx => ?_⟩, hfailed⟩
  · simp [State.sameBut]
  · rw [hfaults]
    exact hreported
  · rw [hinbox]
    exact hstops hstop
  · rw [hport]
    simp
  · rw [hline]
    rfl
  all_goals rw [hrun]
  case refine_6 => rfl
  case refine_7 => rfl
  case refine_8 => rfl
  case refine_9 => rfl
  · rw [RunControl.dropAll, Banks.drop_get]
    exact ((BankEntry.drop_state _).1 hx).1
  · rw [RunControl.dropAll, Banks.drop_get]
    exact (BankEntry.drop_state _).2 hx

/-- Settles O54. -/
theorem autoTimerForcesATrigger : Obligations.AutoTimerForcesATrigger := by
  intro s x due hr hready htimer hfilling
  have hexpire : s.begin.expireAutoTimer =
      ((((s.begin.arrive due).onRun fun r => { r with autoTimer := none, forceOrigin := .auto }).enqueue (.force x))).pump := by
    simp [State.expireAutoTimer, htimer, hfilling, hready]
  refine ⟨_, command_next _ s hr, ?_⟩
  rw [hexpire]
  refine ⟨by simp, by simp, by simp, by simp, ?_⟩
  have hqueued := State.pump_queued
    (((s.begin.arrive due).onRun fun r => { r with autoTimer := none, forceOrigin := .auto }).enqueue (.force x))
    (s.run.queue ++ [.force x]) (by simp) (by simp [noOutputs])
  exact State.queued_of_eq hqueued (by simp) (by simp) rfl rfl rfl rfl

/-! ## ACK (R81, R95) -/

/-- The port is free of the request that an ACK answers. -/
def State.answeredPort (s : State) : State := { s with port := { s.port with outstanding := none } }

theorem State.takeAck_arm {s : State} {x : Bank} {p : Plan} {f : List FrontEnd} {c : TrigCodes} {due : Time}
    (h : s.port.outstanding = some (.run (.arm x p f c), due)) :
    s.takeAck = (s.answeredPort.onBanks fun b => b.set x { b.get x with armed := true }).pump := by
  simp only [State.takeAck, h]
  rfl

theorem State.takeAck_abandon {s : State} {x : Bank} {due : Time} (h : s.port.outstanding = some (.run (.abandon x), due))
    (hclosing : (s.run.banks.get x).state = .closing) : s.takeAck = ((s.answeredPort.onBanks (·.move x .free)).bankFreed).pump := by
  simp only [State.takeAck, h, if_pos hclosing]
  rfl

theorem State.takeAck_other {s : State} {x : Bank} {due : Time}
    (h : s.port.outstanding = some (.run (.force x), due) ∨ ∃ c, s.port.outstanding = some (.run (.update x c), due)) :
    s.takeAck = s.answeredPort.pump := by
  rcases h with h | ⟨c, h⟩ <;> simp only [State.takeAck, h] <;> rfl

theorem State.takeAck_discarded {s : State} (h : ∀ q due, s.port.outstanding ≠ some (.run q, due)) : s.takeAck = s := by
  unfold State.takeAck
  split
  · exact absurd (by assumption) (h _ _)
  · rfl
  · rfl

@[simp] theorem Banks.move_get_same (b : Banks) (x : Bank) (st : BankState) :
    (b.move x st).get x = if st = .free then (b.get x).free else { b.get x with state := st } := by
  simp [Banks.move]

@[simp] theorem Banks.move_get_other (b : Banks) (x : Bank) (st : BankState) : (b.move x st).get x.other = b.get x.other := by
  simp [Banks.move]

theorem Banks.find_of_only {b : Banks} {x : Bank} {st : BankState} (h : (b.get x).state = st) (h' : (b.get x.other).state ≠ st) :
    b.find st = some x := by
  cases x <;> simp_all [Banks.find, Banks.get, Bank.other]

theorem Banks.find_of_none {b : Banks} {x : Bank} {st : BankState} (h : (b.get x).state ≠ st) (h' : (b.get x.other).state ≠ st) :
    b.find st = none := by
  cases x <;> simp_all [Banks.find, Banks.get, Bank.other]

/-- Settles O46. -/
theorem ackTakenAgainstTheOutstandingRequest : Obligations.AckTakenAgainstTheOutstandingRequest := by
  intro s hr
  refine ⟨_, exec_ack hr, fun x p f c due hout => ?_, fun x due hout hclosing => ⟨fun hstate => ?_, fun hwait hother => ?_⟩,
    fun x due hout => ?_, fun hout => ?_⟩
  · rw [State.takeAck_arm (s := s.begin) hout]
    refine ⟨by simp [State.answeredPort, State.onBanks], by simp [State.answeredPort, State.onBanks], by simp [State.answeredPort, State.onBanks], ?_⟩
    exact State.settle_pump_queued rfl rfl rfl rfl
  · rw [State.takeAck_abandon (s := s.begin) hout hclosing]
    have hidle : (s.begin.answeredPort.onBanks (·.move x .free)).bankFreed = s.begin.answeredPort.onBanks (·.move x .free) :=
      if_neg hstate
    rw [hidle]
    simp [State.answeredPort, State.onBanks, BankEntry.free]
  · rw [State.takeAck_abandon (s := s.begin) hout hclosing]
    have harms : (s.begin.answeredPort.onBanks (·.move x .free)).bankFreed = (s.begin.answeredPort.onBanks (·.move x .free)).arm :=
      if_pos hwait
    have hfree : (s.begin.answeredPort.onBanks (·.move x .free)).run.banks.find .free = some x :=
      Banks.find_of_only (by simp [State.answeredPort, State.onBanks, BankEntry.free])
        (by simpa [State.answeredPort, State.onBanks] using hother)
    have hkept : (s.begin.answeredPort.onBanks (·.move x .free)).run.banks.get x.other = s.run.banks.get x.other :=
      Banks.move_get_other _ _ _
    rw [harms]
    generalize s.begin.answeredPort.onBanks (·.move x .free) = u at *
    obtain ⟨htable, hrun⟩ := u.arm_of_free x hfree
    simp [htable, hrun, hkept]
  · rw [State.takeAck_other (s := s.begin) hout]
    refine ⟨by simp [State.answeredPort], by simp [State.answeredPort], ?_⟩
    exact State.settle_pump_queued rfl rfl rfl rfl
  · rw [State.takeAck_discarded (s := s.begin) hout]
    exact s.sameBut_begin_settle

end Sys2Proof.Machine

/-! COMPLETE and HELLO: the two messages after which the Run Controller arms anew (R81, R82, R86, R97). -/

namespace Sys2Proof.Machine

/-! ## The end of an acquisition (R86) -/

/-- An acquisition ended, before the controller arms, stops or waits (R86). -/
def State.acquired (x : Bank) (s : State) : State :=
  let s := if s.table.acquire.acqState = .triggered then s else s.trigger x false
  let s := (s.onBanks (·.complete x)).countAcquisition
  ((s.unqueue fun q => q.isUpdate x || q.isForce x).cancelAutoTimer).recompose

theorem State.takeComplete_run (x : Bank) {s : State} (h : s.table.acquire.acqState.inFlight = true)
    (hrun : (s.acquired x).table.acquire.runState = .run) : s.takeComplete x = (s.acquired x).arm.pump := by
  unfold State.takeComplete
  rw [if_pos h]
  dsimp only
  simp only [State.acquired] at hrun ⊢
  rw [hrun]

theorem State.takeComplete_single (x : Bank) {s : State} (h : s.table.acquire.acqState.inFlight = true)
    (hrun : (s.acquired x).table.acquire.runState = .single) :
    s.takeComplete x = ({ (s.acquired x).setAcqState .stopped with
      inbox := { (s.acquired x).inbox with ownerRun := (s.acquired x).inbox.ownerRun + 1 } } : State).pump := by
  unfold State.takeComplete
  rw [if_pos h]
  dsimp only
  simp only [State.acquired] at hrun ⊢
  rw [hrun]
  simp

theorem State.takeComplete_stop (x : Bank) {s : State} (h : s.table.acquire.acqState.inFlight = true)
    (hrun : (s.acquired x).table.acquire.runState = .stop) : s.takeComplete x = ((s.acquired x).setAcqState .stopped).pump := by
  unfold State.takeComplete
  rw [if_pos h]
  dsimp only
  simp only [State.acquired] at hrun ⊢
  rw [hrun]

/-- What the end of an acquisition leaves (R81, R86). -/
theorem State.acquired_effect (x : Bank) (s : State) :
    (s.acquired x).table = { s.table with acquire := { s.table.acquire with
        acqState := (s.acquired x).table.acquire.acqState
        trigStatus := if s.table.acquire.acqState = .triggered then s.table.acquire.trigStatus else .triggered
        acqCount := s.table.acquire.acqCount + 1 } }
      ∧ (s.acquired x).run.banks = s.run.banks.complete x ∧ (s.acquired x).run.autoTimer = none
      ∧ (s.acquired x).composer.recompose = true ∧ (s.acquired x).inbox = s.inbox ∧ (s.acquired x).planner = s.planner := by
  unfold State.acquired
  dsimp only
  by_cases h : s.table.acquire.acqState = .triggered
  · simp only [if_pos h]
    refine ⟨?_, ?_, rfl, rfl, ?_, ?_⟩ <;> simp [State.countAcquisition_table, State.recompose, State.cancelAutoTimer, State.onBanks]
  · simp only [if_neg h]
    obtain ⟨htable, hrun⟩ := s.trigger_effect x false
    refine ⟨?_, ?_, rfl, rfl, ?_, ?_⟩ <;>
      simp [State.countAcquisition_table, State.recompose, State.cancelAutoTimer, State.onBanks, htable, hrun, trigStatusOf]

theorem State.setAcqState_recompose {v : AcqState} {s : State} (h : s.composer.recompose = true) :
    (s.setAcqState v).composer.recompose = true := State.statusUpdate_recompose _ _ h

theorem Bank.other_other (x : Bank) : x.other.other = x := by cases x <;> rfl

theorem Banks.complete_get (b : Banks) (x : Bank) :
    (b.complete x).get x = { b.get x with state := .held }
      ∧ (b.complete x).get x.other = if (b.get x.other).state = .held then (b.get x.other).free else b.get x.other := by
  have hmoved : (b.move x.other .free).get x = b.get x := by
    have h := b.move_get_other x.other .free
    rwa [Bank.other_other] at h
  unfold Banks.complete
  dsimp only
  split <;> simp [*]

theorem exec_complete_of_takesNotices {s : State} {x : Bank} (hr : s.inReset = false) (h : s.takesNotices x) :
    exec (.complete (CaptureMsg.complete x.number).bytes) s = .next (s.begin.takeComplete x).settle := by
  have hbegin : s.begin.takesNotices x := h
  rw [exec_complete x.number_lt hr, State.onNotice_of_takesNotices _ hbegin]

/-- An arm reaches every bank but the one it takes, and leaves the timer as it was (R82). -/
theorem State.arm_run_frame (s : State) :
    s.arm.run.autoTimer = s.run.autoTimer ∧ s.arm.run.forcePending = s.run.forcePending
      ∧ ∀ x, (s.run.banks.get x).state ≠ .free → s.arm.run.banks.get x = s.run.banks.get x := by
  cases hfree : s.run.banks.find .free with
  | none =>
    obtain ⟨-, hrun⟩ := s.arm_of_none hfree
    rw [hrun]
    exact ⟨rfl, rfl, fun _ _ => rfl⟩
  | some y =>
    obtain ⟨-, hrun⟩ := s.arm_of_free y hfree
    rw [hrun]
    refine ⟨rfl, rfl, fun x hx => ?_⟩
    have hne : x = y.other := by
      have hy := Banks.find_some hfree
      cases x <;> cases y <;> first | rfl | exact absurd hy hx
    rw [hne]
    exact Banks.get_set_other _ _ _

theorem State.arm_acqCount (s : State) : s.arm.table.acquire.acqCount = s.table.acquire.acqCount := by
  cases hfree : s.run.banks.find .free with
  | none => rw [(s.arm_of_none hfree).1]
  | some y => rw [(s.arm_of_free y hfree).1]

/-- Settles O51. -/
theorem completeEndsTheAcquisition : Obligations.CompleteEndsTheAcquisition := by
  intro s x hr hx hflight
  have hexec := exec_complete_of_takesNotices hr hx
  obtain ⟨htable, hbanks, htimer, hrecompose, hinbox, hplanner⟩ := s.begin.acquired_effect x
  have hsettings : (s.begin.takeComplete x).table.settings = s.table.settings := s.begin.takeComplete_settings x
  obtain ⟨hsame, hother⟩ := s.run.banks.complete_get x
  have hrunState : (s.begin.acquired x).table.acquire.runState = s.table.acquire.runState := by rw [htable]; rfl
  have hcount : (s.begin.acquired x).table.acquire.acqCount = s.table.acquire.acqCount + 1 := by rw [htable]; rfl
  have htrig : (s.begin.acquired x).table.acquire.trigStatus =
      if s.table.acquire.acqState = .triggered then s.table.acquire.trigStatus else .triggered := by rw [htable]; rfl
  have hdesc : descriptorOf (s.begin.acquired x).planner (s.begin.acquired x).table = descriptorOf s.planner s.table := by
    rw [hplanner, htable]
    rfl
  simp only [State.begin_run] at hbanks
  rw [← hbanks] at hsame hother
  refine ⟨_, hexec, ?_⟩
  cases hrs : s.table.acquire.runState with
  | run =>
    have htake := s.begin.takeComplete_run x hflight (hrunState.trans hrs)
    rw [htake] at hsettings ⊢
    clear htake htable
    generalize s.begin.acquired x = u at *
    obtain ⟨htimer', -, hkept⟩ := u.arm_run_frame
    have hheld := hkept x (by rw [hsame]; exact fun h => BankState.noConfusion h)
    refine ⟨?_, ?_, ?_, by simpa using hsettings, ?_, ?_, fun h => RunState.noConfusion h, fun _ => ⟨?_, fun hfree => ?_, fun hnheld hnfree => ?_⟩⟩
    · simp [hheld, hsame]
    · simp [hheld, hsame]
    · simp [State.arm_acqCount, hcount]
    · simp [htimer', htimer]
    · simp [State.arm_recompose hrecompose]
    · simp [hinbox]
    · have hfind : u.run.banks.find .free = some x.other := by
        refine Banks.find_of_only ?_ ?_
        · rw [hother]
          rcases hfree with h | h <;> simp [h, BankEntry.free]
        · rw [Bank.other_other, hsame]
          exact fun h => BankState.noConfusion h
      obtain ⟨htable, hrun⟩ := u.arm_of_free x.other hfind
      simp [htable, hrun, hdesc]
    · have hfind : u.run.banks.find .free = none := by
        refine Banks.find_of_none (x := x) ?_ ?_
        · rw [hsame]
          exact fun h => BankState.noConfusion h
        · rw [hother, if_neg hnheld]
          exact hnfree
      obtain ⟨htable, hrun⟩ := u.arm_of_none hfind
      simp [htable, hrun, hother, hnheld]
  | single =>
    have htake := s.begin.takeComplete_single x hflight (hrunState.trans hrs)
    rw [htake] at hsettings ⊢
    clear htake htable
    generalize s.begin.acquired x = u at *
    refine ⟨?_, ?_, ?_, by simpa using hsettings, ?_, ?_, fun _ => ⟨?_, ?_, ?_, ?_⟩, fun h => RunState.noConfusion h⟩
    · simp [hsame]
    · simp [hsame]
    · simp [State.setAcqState_table, hcount]
    · simp [htimer]
    · simp [State.setAcqState_recompose hrecompose]
    · simp [State.setAcqState_table]
    · simp [hinbox]
    · simp [State.setAcqState_table, htrig]
    · simp only [State.settle_run, State.pump_run, State.setAcqState_frame, hother]
      split <;> rfl
  | stop =>
    have htake := s.begin.takeComplete_stop x hflight (hrunState.trans hrs)
    rw [htake] at hsettings ⊢
    clear htake htable
    generalize s.begin.acquired x = u at *
    refine ⟨?_, ?_, ?_, by simpa using hsettings, ?_, ?_, fun h => RunState.noConfusion h, fun h => RunState.noConfusion h⟩
    · simp [hsame]
    · simp [hsame]
    · simp [State.setAcqState_table, hcount]
    · simp [htimer]
    · simp [State.setAcqState_recompose hrecompose]

/-! ## HELLO (R97) -/

/-- The Run Controller started again: STOPPED, or an arm (R82, R97). -/
theorem State.restart_effect (s : State) :
    (s.table.acquire.runState = .stop →
        s.restart.run = s.run ∧ s.restart.table.acquire.acqState = .stopped)
      ∧ (∀ x, s.table.acquire.runState ≠ .stop → s.run.banks.find .free = some x →
          s.restart.table.acquire.acqState = .arming ∧ s.restart.table.acquire.trigStatus = .waiting
            ∧ s.restart.run = { s.run with
                banks := s.run.banks.set x { state := .filling, armed := false, desc := some (descriptorOf s.planner s.table) }
                queue := s.run.queue ++ [.arm x s.planner.plan s.planner.front s.planner.trig], forceOrigin := .none })
      ∧ (s.table.acquire.runState ≠ .stop → s.run.banks.find .free = none →
          s.restart.table.acquire.acqState = .waitBank ∧ s.restart.run = s.run)
      ∧ s.restart.table.system = s.table.system := by
  have hrunState : (s.setAcqState .stopped).table.acquire.runState = s.table.acquire.runState := by rw [State.setAcqState_table]
  have hsystem : (s.setAcqState .stopped).table.system = s.table.system := by rw [State.setAcqState_table]
  have hdesc : descriptorOf s.planner (s.setAcqState .stopped).table = descriptorOf s.planner s.table := by
    rw [State.setAcqState_table]
    rfl
  have hrun : (s.setAcqState .stopped).run = s.run := by simp
  have hplanner : (s.setAcqState .stopped).planner = s.planner := by simp
  have hstopped : (s.setAcqState .stopped).table.acquire.acqState = .stopped := by rw [State.setAcqState_table]
  unfold State.restart
  dsimp only
  rw [hrunState]
  generalize s.setAcqState .stopped = u at *
  refine ⟨fun hstop => ?_, fun x hgo hfree => ?_, fun hgo hfree => ?_, ?_⟩
  · rw [if_pos hstop]
    exact ⟨hrun, hstopped⟩
  · obtain ⟨htable, hrun'⟩ := u.arm_of_free x (by rw [hrun]; exact hfree)
    rw [if_neg hgo, htable, hrun', hrun, hplanner, hdesc]
    exact ⟨rfl, rfl, rfl⟩
  · obtain ⟨htable, hrun'⟩ := u.arm_of_none (by rw [hrun]; exact hfree)
    rw [if_neg hgo, htable, hrun', hrun]
    exact ⟨rfl, rfl⟩
  · split
    · exact hsystem
    · cases hfree : u.run.banks.find .free with
      | none => rw [(u.arm_of_none hfree).1]; exact hsystem
      | some y => rw [(u.arm_of_free y hfree).1]; exact hsystem

theorem State.restart_recompose {s : State} (h : s.composer.recompose = true) : s.restart.composer.recompose = true := by
  unfold State.restart
  dsimp only
  split
  · exact State.setAcqState_recompose h
  · exact State.arm_recompose (State.setAcqState_recompose h)

/-- HELLO taken while OFFLINE (R97). -/
def State.broughtOnline (s : State) : State :=
  (({ s with port := { s.port with queryAt := none, lateAt := none } } : State).setCaptureOnline true)

theorem State.takeHello_offline {s : State} (h : s.table.system.captureOnline = false) : s.takeHello = s.broughtOnline.restart.pump := by
  unfold State.takeHello
  rw [if_neg (by simp [h])]
  rfl

/-- HELLO taken while ONLINE (R97). -/
theorem State.takeHello_online {s : State} (h : s.table.system.captureOnline = true) :
    s.takeHello = ((s.failReduces.onRun RunControl.dropAll).restart).recompose.pump := if_pos h

/-- A bank that holds data is not taken by an arm that follows a drop (R81, R97). -/
theorem Banks.drop_kept {b : Banks} {x : Bank} (h : (b.get x).state = .held ∨ (b.get x).state = .shown) : b.drop.get x = b.get x := by
  rw [Banks.drop_get]
  exact (BankEntry.drop_state _).2 h

/-- With no bank FREE after a drop there was none to drop. -/
theorem Banks.drop_of_none {b : Banks} (h : b.drop.find .free = none) : b.drop = b := by
  have hentry (e : BankEntry) (he : e.drop.state ≠ .free) : e.drop = e := by
    have hdrop := BankEntry.drop_state e
    cases hs : e.state with
    | filling => exact absurd (hdrop.1 (.inl hs)).1 he
    | closing => exact absurd (hdrop.1 (.inr hs)).1 he
    | held => exact hdrop.2 (.inl hs)
    | shown => exact hdrop.2 (.inr hs)
    | free => unfold BankEntry.drop; rw [hs]
  have hdrop : b.drop = ⟨b.a.drop, b.b.drop⟩ := rfl
  rw [hdrop] at h ⊢
  have ha : b.a.drop.state ≠ .free := by
    intro hc
    simp [Banks.find, hc] at h
  have hb : b.b.drop.state ≠ .free := by
    intro hc
    simp [Banks.find, ha, hc] at h
  rw [hentry _ ha, hentry _ hb]

/-- A free ONLINE port sends the one request that waits (R93, R94). -/
theorem State.pump_one {s : State} {q : RcRequest} (hq : s.run.queue = [q]) (honline : s.table.system.captureOnline = true)
    (hport : s.port.outstanding = none) (hout : s.out.capture = []) :
    s.pump.run.queue = [] ∧ s.pump.port.outstanding = some (.run q, after s.clock.now 2000)
      ∧ s.pump.out.capture = [.request (.run q)] := by
  have hqueued := s.pump_queued [q] hq hout
  simpa [State.queued, honline, hport] using hqueued

theorem State.pump_timers (s : State) : s.pump.port.queryAt = s.port.queryAt ∧ s.pump.port.lateAt = s.port.lateAt := by
  unfold State.pump
  (repeat' split) <;> exact ⟨rfl, rfl⟩

theorem State.statusUpdate_failed (r : Ref) (w : Table → Table) (s : State) :
    (s.statusUpdate r w).composer.failed = s.composer.failed := by
  unfold State.statusUpdate
  dsimp only
  split <;> rfl

theorem State.restart_failed (s : State) : s.restart.composer.failed = s.composer.failed := by
  unfold State.restart State.arm State.setAcqState State.setTrigStatus
  dsimp only
  split
  · exact State.statusUpdate_failed _ _ _
  · split <;> simp only [State.statusUpdate_failed, State.onRun]

/-- What the Run Controller finds when the port has come ONLINE (R97). -/
theorem State.broughtOnline_effect (s : State) :
    s.broughtOnline.table = { s.table with system := { s.table.system with captureOnline := true } }
      ∧ s.broughtOnline.run = s.run ∧ s.broughtOnline.planner = s.planner ∧ s.broughtOnline.out = s.out
      ∧ s.broughtOnline.clock = s.clock ∧ s.broughtOnline.port = { s.port with queryAt := none, lateAt := none } := by
  unfold State.broughtOnline
  rw [State.setCaptureOnline_table]
  simp

/-- What a HELLO taken while OFFLINE leaves (R97). -/
theorem State.takeHello_of_offline {s : State} (honline : s.table.system.captureOnline = false) (hout : s.out.capture = []) :
    s.takeHello.table.system.captureOnline = true
      ∧ (s.table.acquire.runState = .stop → s.takeHello.table.acquire.acqState = .stopped)
      ∧ s.takeHello.port.queryAt = none ∧ s.takeHello.port.lateAt = none
      ∧ (s.port.outstanding = none → s.run.queue = [] → s.table.acquire.runState ≠ .stop → ∀ x, s.run.banks.find .free = some x →
          s.takeHello.table.acquire.acqState = .arming ∧ s.takeHello.table.acquire.trigStatus = .waiting
            ∧ s.takeHello.run.banks.get x = { state := .filling, armed := false, desc := some (descriptorOf s.planner s.table) }
            ∧ s.takeHello.run.banks.get x.other = s.run.banks.get x.other ∧ s.takeHello.run.queue = []
            ∧ s.takeHello.run.forceOrigin = .none
            ∧ s.takeHello.out.capture = [.request (.run (.arm x s.planner.plan s.planner.front s.planner.trig))]
            ∧ s.takeHello.port.outstanding =
                some (.run (.arm x s.planner.plan s.planner.front s.planner.trig), after s.clock.now 2000))
      ∧ (s.table.acquire.runState ≠ .stop → s.run.banks.find .free = none →
          s.takeHello.table.acquire.acqState = .waitBank ∧ s.takeHello.run.banks = s.run.banks) := by
  obtain ⟨htable, hrun, hplanner, hline, hclock, hport⟩ := s.broughtOnline_effect
  have hrunState : s.broughtOnline.table.acquire.runState = s.table.acquire.runState := by rw [htable]
  have hdesc : descriptorOf s.broughtOnline.planner s.broughtOnline.table = descriptorOf s.planner s.table := by
    rw [htable, hplanner]
    rfl
  have honline' : s.broughtOnline.table.system.captureOnline = true := by rw [htable]
  rw [State.takeHello_offline honline]
  clear htable
  generalize s.broughtOnline = u at *
  obtain ⟨hstop, harms, hwaits, hsystem⟩ := u.restart_effect
  rw [hrunState, hrun] at hstop harms hwaits
  obtain ⟨hquery, hlate⟩ := u.restart.pump_timers
  refine ⟨by simp [hsystem, honline'], fun hs => by simp [hstop hs], by simp [hquery, hport], by simp [hlate, hport],
    fun hfree hempty hgo x hx => ?_, fun hgo hnone => ?_⟩
  · obtain ⟨hacq, htrig, hrun'⟩ := harms x hgo hx
    obtain ⟨hqueue, hsent, hcapture⟩ := State.pump_one (s := u.restart) (q := .arm x s.planner.plan s.planner.front s.planner.trig)
      (by simp [hrun', hempty, hplanner]) (by rw [hsystem, honline']) (by simp [hport, hfree]) (by simp [hline, hout])
    rw [hqueue, hsent, hcapture]
    simp [hacq, htrig, hrun', hdesc, hclock]
  · obtain ⟨hacq, hrun'⟩ := hwaits hgo hnone
    simp [hacq, hrun']

/-- What a HELLO taken while ONLINE leaves (R97). -/
theorem State.takeHello_of_online {s : State} (honline : s.table.system.captureOnline = true) (hout : s.out.capture = []) :
    s.takeHello.table.system.captureOnline = true
      ∧ (s.table.acquire.runState = .stop → s.takeHello.table.acquire.acqState = .stopped)
      ∧ s.takeHello.run.forcePending = false ∧ s.takeHello.run.forceOrigin = .none
      ∧ s.takeHello.run.autoTimer = none ∧ s.takeHello.composer.recompose = true ∧ s.takeHello.run.queue = []
      ∧ s.takeHello.port.waiting = none
      ∧ (∀ x, (s.run.banks.get x).state = .held ∨ (s.run.banks.get x).state = .shown →
          s.takeHello.run.banks.get x = s.run.banks.get x)
      ∧ (s.port.hasReduce = true → s.takeHello.composer.failed = true)
      ∧ (s.table.acquire.runState = .stop → s.takeHello.port.outstanding = none ∧ s.takeHello.out.capture = []
          ∧ s.takeHello.run.banks = s.run.banks.drop)
      ∧ (∀ x, s.table.acquire.runState ≠ .stop → s.run.banks.drop.find .free = some x →
          s.takeHello.table.acquire.acqState = .arming ∧ s.takeHello.table.acquire.trigStatus = .waiting
            ∧ s.takeHello.run.banks.get x = { state := .filling, armed := false, desc := some (descriptorOf s.planner s.table) }
            ∧ s.takeHello.run.banks.get x.other = s.run.banks.drop.get x.other
            ∧ s.takeHello.out.capture = [.request (.run (.arm x s.planner.plan s.planner.front s.planner.trig))]
            ∧ s.takeHello.port.outstanding =
                some (.run (.arm x s.planner.plan s.planner.front s.planner.trig), after s.clock.now 2000))
      ∧ (s.table.acquire.runState ≠ .stop → s.run.banks.drop.find .free = none →
          s.takeHello.table.acquire.acqState = .waitBank ∧ s.takeHello.run.banks = s.run.banks
            ∧ s.takeHello.port.outstanding = none ∧ s.takeHello.out.capture = []) := by
  have htable : (s.failReduces.onRun RunControl.dropAll).table = s.table := by simp
  have hrun : (s.failReduces.onRun RunControl.dropAll).run = s.run.dropAll := by simp
  have hplanner : (s.failReduces.onRun RunControl.dropAll).planner = s.planner := by simp
  have hline : (s.failReduces.onRun RunControl.dropAll).out.capture = [] := by simpa using hout
  have hclock : (s.failReduces.onRun RunControl.dropAll).clock = s.clock := by simp
  have hport : (s.failReduces.onRun RunControl.dropAll).port = { s.port with outstanding := none, waiting := none } := by
    unfold State.failReduces
    dsimp only
    split <;> rfl
  have hfailed : s.port.hasReduce = true → (s.failReduces.onRun RunControl.dropAll).composer.failed = true := by
    intro h
    unfold State.failReduces
    dsimp only
    rw [if_pos h]
    rfl
  rw [State.takeHello_online honline]
  generalize s.failReduces.onRun RunControl.dropAll = u at *
  obtain ⟨hstop, harms, hwaits, hsystem⟩ := u.restart_effect
  rw [htable, hrun] at hstop harms hwaits
  have hwaiting : u.restart.recompose.port.waiting = none := by simp [hport]
  obtain ⟨hcomposer, hport'⟩ := u.restart.recompose.pump_of_no_reduce hwaiting
  have honline' : u.restart.recompose.table.system.captureOnline = true := by simp [hsystem, htable, honline]
  have hfail : s.port.hasReduce = true → u.restart.recompose.pump.composer.failed = true := by
    intro h
    rw [hcomposer]
    exact (State.restart_failed u).trans (hfailed h)
  have hidle (h : u.restart.run.queue = []) : u.restart.recompose.pump = u.restart.recompose :=
    u.restart.recompose.pump_of_nothing (by simpa using h) hwaiting
  by_cases hs : s.table.acquire.runState = .stop
  · obtain ⟨hrun', hacq⟩ := hstop hs
    have hdropped : u.restart.run = s.run.dropAll := hrun'
    have hempty : u.restart.run.queue = [] := by rw [hdropped]; rfl
    rw [hidle hempty] at hfail ⊢
    refine ⟨honline', fun _ => hacq, ?_, ?_, ?_, rfl, hempty, hwaiting, fun x hx => ?_, hfail, fun _ => ⟨?_, ?_, ?_⟩,
      fun x h => absurd hs h, fun h => absurd hs h⟩
    case refine_4 => simpa [hdropped, RunControl.dropAll] using (BankEntry.drop_state _).2 hx
    all_goals simp [hdropped, RunControl.dropAll, hport, hline]
  · cases hfind : s.run.banks.drop.find .free with
    | none =>
      obtain ⟨hacq, hrun'⟩ := hwaits hs hfind
      have hdropped : u.restart.run = s.run.dropAll := hrun'
      have hempty : u.restart.run.queue = [] := by rw [hdropped]; rfl
      have hsame := Banks.drop_of_none hfind
      rw [hidle hempty] at hfail ⊢
      refine ⟨honline', fun h => absurd h hs, ?_, ?_, ?_, rfl, hempty, hwaiting, fun x hx => ?_, hfail, fun h => absurd h hs,
        fun x _ h => absurd h (by simp), fun _ _ => ⟨hacq, ?_, ?_, ?_⟩⟩
      all_goals simp [hdropped, RunControl.dropAll, hport, hline, hsame]
    | some y =>
      obtain ⟨hacq, htrig, hrun'⟩ := harms y hs hfind
      obtain ⟨hqueue, hsent, hcapture⟩ := State.pump_one (s := u.restart.recompose)
        (q := .arm y s.planner.plan s.planner.front s.planner.trig) (by simp [hrun', RunControl.dropAll, hplanner]) honline'
        (by simp [hport]) (by simpa using hline)
      refine ⟨by simp [hsystem, htable, honline], fun h => absurd h hs, ?_, ?_, ?_, by simp, hqueue, by rw [hport']; exact hwaiting,
        fun x hx => ?_, hfail, fun h => absurd h hs, fun x _ hx => ?_, fun _ h => absurd h (by simp)⟩
      · simp [hrun', RunControl.dropAll]
      · simp [hrun', RunControl.dropAll]
      · simp [hrun', RunControl.dropAll]
      · have hdrop := Banks.drop_kept hx
        have hother : x = y.other := by
          have hfree := Banks.find_some hfind
          have hne : (s.run.banks.drop.get x).state ≠ .free := by
            rw [hdrop]
            rcases hx with h | h <;> simp [h]
          cases x <;> cases y <;> first | rfl | exact absurd hfree hne
        subst hother
        rw [← hdrop]
        simp [hrun', RunControl.dropAll]
      · obtain rfl : y = x := Option.some.inj hx
        rw [hcapture, hsent]
        simp [hacq, htrig, hrun', RunControl.dropAll, hplanner, hclock]

/-- Settles O48. -/
theorem helloStartsAfresh : Obligations.HelloStartsAfresh := by
  intro s hr
  have hdropped (x : Bank) : s.run.banks.drop.get x =
      if (s.run.banks.get x).state = .filling ∨ (s.run.banks.get x).state = .closing
        then { s.run.banks.get x with state := .free, armed := false } else s.run.banks.get x := by
    rw [Banks.drop_get]
    unfold BankEntry.drop BankEntry.free
    cases h : (s.run.banks.get x).state <;> simp
  refine ⟨_, exec_hello hr, by simp [State.sameBut], ?_⟩
  simp only [State.settle_table, State.settle_port, State.settle_run, State.settle_out, State.settle_composer]
  cases honline : s.table.system.captureOnline with
  | false =>
    obtain ⟨hsystem, hstop, hquery, hlate, harms, hwaits⟩ := State.takeHello_of_offline (s := s.begin) honline rfl
    exact ⟨hsystem, by simp, hstop, fun _ => ⟨hquery, hlate⟩, fun _ => harms, fun _ => hwaits, fun h => Bool.noConfusion h⟩
  | true =>
    obtain ⟨hsystem, hstop, hpending, horigin, htimer, hrecompose, hqueue, hwaiting, hheld, hfailed, hstopped, harms, hwaits⟩ :=
      State.takeHello_of_online (s := s.begin) honline rfl
    refine ⟨hsystem, by simp, hstop, fun h => Bool.noConfusion h, fun h => Bool.noConfusion h, fun h => Bool.noConfusion h, fun _ => ?_⟩
    refine ⟨hpending, horigin, htimer, hrecompose, hqueue, hwaiting, hheld, hfailed, fun hs => ?_, harms, hwaits, hdropped⟩
    obtain ⟨hsent, hcapture, hbanks⟩ := hstopped hs
    refine ⟨hsent, hcapture, fun x hx => ?_⟩
    rw [hbanks, Banks.drop_get]
    exact (BankEntry.drop_state _).1 hx

end Sys2Proof.Machine

/-! The events of owners run and fault, and what an event hands to the Run Controller (R86, R89 to R91, R170). -/

namespace Sys2Proof.Machine

/-! ## The events of owners run and fault (R86, R170) -/

/-- An event that retires nothing, of an owner that drops no intents, leaves the intents (R4 stage 7). -/
theorem eventTable_intents {o : Owner} {d : Draft} {t : Table} (howner : o.dropsIntents = false) (hretired : d.retired = [])
    (hd : d.table.intents = t.intents) : (eventTable o d t).intents = t.intents := by
  by_cases hnothing : alteredRefs t (d.planned t) = [] ∧ d.created = [] ∧ d.retired = []
  · obtain ⟨ha, hc, hr⟩ := hnothing
    rw [eventTable_of_nothing o d t ha hc hr]
  · have hplanned : (d.planned t).table.intents = d.table.intents := by
      unfold Draft.planned
      split <;> rfl
    have hmark (x : Stamp) (l : List RecKey) (u : Table) : (l.foldl (fun t k => t.mark x k) u).intents = u.intents := (foldl_mark x l u).2.1
    rw [eventTable_of_something o d t hnothing]
    unfold dropIntents stampEvent
    simp only [howner, Bool.false_eq_true, if_false, Draft.planned_retired, hretired, List.foldl_nil]
    split
    · exact hplanned.trans hd
    · rw [hmark]
      exact hplanned.trans hd

theorem Table.runState_of_settings {t u : Table} (h : t.settings = u.settings) : t.acquire.runState = u.acquire.runState := by
  have hruns := congrArg (fun t => t.acquire.runState) h
  exact hruns

/-- What an event that sets run_state STOP leaves (R4, R5, R86, R170). -/
theorem State.commit_stop {o : Owner} (howner : o.dropsIntents = false) {s : State} {t : Table} (ht : s.table = t) :
    (s.commit o (runStateDraft t .stop)).table.acquire.runState = .stop
      ∧ (s.commit o (runStateDraft t .stop)).table.intents = t.intents
      ∧ (t.acquire.runState = .stop → s.commit o (runStateDraft t .stop) = s)
      ∧ (t.acquire.runState ≠ .stop →
          (s.commit o (runStateDraft t .stop)).table.counter = nextStamp t.counter
          ∧ (s.commit o (runStateDraft t .stop)).table.stampOf acquireKey = nextStamp t.counter
          ∧ acquireKey ∈ (s.commit o (runStateDraft t .stop)).table.changeSet) := by
  subst ht
  have hsettings := s.commit_settings o (runStateDraft s.table .stop)
  have hruns : (s.commit o (runStateDraft s.table .stop)).table.acquire.runState
      = (eventTable o (runStateDraft s.table .stop) s.table).acquire.runState :=
    Table.runState_of_settings hsettings
  obtain ⟨hcounter, hstamps, hchange, -, hintents, -⟩ := Table.reads_of_settings hsettings
  have hkept := eventTable_intents (d := runStateDraft s.table .stop) (t := s.table) howner rfl rfl
  by_cases hstop : s.table.acquire.runState = .stop
  · have hsame : runStateDraft s.table .stop = Draft.of s.table := by
      rw [runStateDraft, ← hstop]
    rw [hsame, State.commit_self]
    exact ⟨hstop, rfl, fun _ => rfl, fun h => absurd hstop h⟩
  · obtain ⟨hsomething, hc, hs, hch⟩ := eventTable_alters o (t := s.table) (d := runStateDraft s.table .stop) (r := ⟨acquireKey, .acRunState⟩)
      rfl (Table.mem_refs.2 ⟨rfl, by decide, by decide⟩) rfl (by decide) (by simp [runStateDraft, Draft.of])
      (by
        have hne : enumValue RunState.positions s.table.acquire.runState ≠ enumValue RunState.positions .stop := by
          revert hstop
          cases s.table.acquire.runState <;> decide
        simpa [Table.get, runStateDraft, Draft.of, acquireKey, Field.cls, Acquire.get] using hne)
    obtain ⟨hacquire, -⟩ := eventTable_acquire o _ s.table hsomething
    refine ⟨?_, hintents.trans hkept, fun h => absurd h hstop, fun _ => ⟨hcounter.trans hc, (Table.stampOf_congr hstamps _).trans hs, ?_⟩⟩
    · rw [hruns, hacquire, Draft.planned_runState]
      rfl
    · rw [hchange]
      exact hch

/-! ## What an event hands over (R89 to R91) -/

/-- An arm is the arm of R82 from the banks and the queue that it finds. -/
theorem State.arm_armed {s u : State} {b : Banks} {q : List RcRequest} (hb : u.run.banks = b) (hq : u.run.queue = q)
    (ht : u.table = s.table) (hp : u.planner = s.planner) : s.armed b q u.arm := by
  unfold State.armed
  cases hfree : b.find .free with
  | none =>
    obtain ⟨htable, hrun⟩ := u.arm_of_none (by rw [hb]; exact hfree)
    rw [htable, hrun, ht]
    exact ⟨hb, hq, rfl⟩
  | some x =>
    obtain ⟨htable, hrun⟩ := u.arm_of_free x (by rw [hb]; exact hfree)
    rw [htable, hrun, hb, hq, ht, hp]
    simp

/-- What a handover clears first (R89). -/
def State.cleared (s : State) : State := s.onRun fun r => { r with forcePending := false, autoTimer := none }

/-- An abandon does not read what a handover clears. -/
theorem State.cleared_abandon (s : State) :
    s.cleared.abandon.run.banks = s.abandon.run.banks ∧ s.cleared.abandon.run.queue = s.abandon.run.queue
      ∧ s.cleared.abandon.run.forcePending = false ∧ s.cleared.abandon.run.autoTimer = none := by
  have hbanks : s.cleared.run.banks = s.run.banks := rfl
  have hqueue : s.cleared.run.queue = s.run.queue := rfl
  unfold State.abandon
  rw [hbanks, hqueue]
  cases s.run.banks.find .filling with
  | none => exact ⟨rfl, rfl, rfl, rfl⟩
  | some x =>
    dsimp only
    split <;> exact ⟨rfl, rfl, rfl, rfl⟩

/-- A handover by the Run Controller's state and run_state (R89). -/
theorem State.handover_cases (s : State) :
    (s.table.acquire.acqState = .offline ∨ (s.table.acquire.acqState = .stopped ∧ s.table.acquire.runState = .stop)
        ∨ (s.table.acquire.acqState = .waitBank ∧ ¬ s.table.acquire.runState = .stop) → s.handover = s.cleared)
      ∧ (s.table.acquire.acqState = .waitBank → s.table.acquire.runState = .stop → s.handover = s.cleared.setAcqState .stopped)
      ∧ (s.table.acquire.acqState = .stopped → ¬ s.table.acquire.runState = .stop → s.handover = s.cleared.arm)
      ∧ (s.table.acquire.acqState.inFlight = true → s.table.acquire.runState = .stop →
          s.handover = s.cleared.abandon.setAcqState .stopped)
      ∧ (s.table.acquire.acqState.inFlight = true → ¬ s.table.acquire.runState = .stop → s.handover = s.cleared.abandon.arm) := by
  unfold State.handover
  dsimp only
  rw [show (s.onRun fun r => { r with forcePending := false, autoTimer := none }) = s.cleared from rfl,
    show s.cleared.table = s.table from rfl]
  by_cases hstop : s.table.acquire.runState = .stop <;> cases s.table.acquire.acqState <;> simp [hstop, AcqState.inFlight]

theorem State.handover_state (s : State) :
    s.handover = s.cleared ∨ s.handover = s.cleared.setAcqState .stopped ∨ s.handover = s.cleared.arm
      ∨ s.handover = s.cleared.abandon.setAcqState .stopped ∨ s.handover = s.cleared.abandon.arm := by
  unfold State.handover
  dsimp only
  rw [show (s.onRun fun r => { r with forcePending := false, autoTimer := none }) = s.cleared from rfl]
  (repeat' split) <;> simp

/-- What a handover leaves (R89). -/
theorem State.handover_effect (s : State) :
    s.handover.run.forcePending = false ∧ s.handover.run.autoTimer = none
      ∧ (s.table.acquire.acqState = .offline ∨ (s.table.acquire.acqState = .stopped ∧ s.table.acquire.runState = .stop)
          ∨ (s.table.acquire.acqState = .waitBank ∧ ¬ s.table.acquire.runState = .stop) →
          s.handover.table = s.table ∧ s.handover.run.banks = s.run.banks ∧ s.handover.run.queue = s.run.queue)
      ∧ (s.table.acquire.acqState = .waitBank → s.table.acquire.runState = .stop →
          s.handover.run.banks = s.run.banks ∧ s.handover.run.queue = s.run.queue
          ∧ s.handover.table = { s.table with acquire := { s.table.acquire with acqState := .stopped } })
      ∧ (s.table.acquire.acqState = .stopped → ¬ s.table.acquire.runState = .stop → s.armed s.run.banks s.run.queue s.handover)
      ∧ (s.table.acquire.acqState.inFlight = true → s.table.acquire.runState = .stop →
          s.handover.run.banks = s.abandon.run.banks ∧ s.handover.run.queue = s.abandon.run.queue
          ∧ s.handover.table = { s.table with acquire := { s.table.acquire with acqState := .stopped } })
      ∧ (s.table.acquire.acqState.inFlight = true → ¬ s.table.acquire.runState = .stop →
          s.armed s.abandon.run.banks s.abandon.run.queue s.handover) := by
  obtain ⟨hstay, hwait, harm, hstop, hagain⟩ := s.handover_cases
  obtain ⟨hbanks, hqueue, hpending, htimer⟩ := s.cleared_abandon
  have htable : s.cleared.abandon.table = s.table := by simp [State.cleared]
  have hcleared : s.handover.run.forcePending = false ∧ s.handover.run.autoTimer = none := by
    have harmed (u : State) (hp : u.run.forcePending = false) (ht : u.run.autoTimer = none) :
        u.arm.run.forcePending = false ∧ u.arm.run.autoTimer = none := by
      obtain ⟨hautoTimer, hforcePending, -⟩ := u.arm_run_frame
      exact ⟨hforcePending.trans hp, hautoTimer.trans ht⟩
    rcases s.handover_state with h | h | h | h | h <;> rw [h]
    · exact ⟨rfl, rfl⟩
    · simp [State.cleared]
    · exact harmed _ rfl rfl
    · simp [hpending, htimer]
    · exact harmed _ hpending htimer
  refine ⟨hcleared.1, hcleared.2, fun h => ?_, fun h hs => ?_, fun h hs => ?_, fun h hs => ?_, fun h hs => ?_⟩
  · rw [hstay h]
    exact ⟨rfl, rfl, rfl⟩
  · rw [hwait h hs]
    simp [State.setAcqState_table, State.cleared]
  · rw [harm h hs]
    exact State.arm_armed rfl rfl rfl rfl
  · rw [hstop h hs]
    rw [State.setAcqState_table, htable]
    simp [hbanks, hqueue]
  · rw [hagain h hs]
    exact State.arm_armed hbanks hqueue htable (by simp [State.cleared])

/-- The queue holds an ARM of a bank exactly when the search for one finds it. -/
theorem any_isArm {x : Bank} {q : List RcRequest} : q.any (·.isArm x) = true ↔ ∃ p f c, .arm x p f c ∈ q := by
  rw [List.any_eq_true]
  constructor
  · rintro ⟨r, hr, h⟩
    cases r with
    | arm y p f c =>
      obtain rfl : x = y := by simpa [RcRequest.isArm] using h
      exact ⟨p, f, c, hr⟩
    | abandon _ => simp [RcRequest.isArm] at h
    | force _ => simp [RcRequest.isArm] at h
    | update _ _ => simp [RcRequest.isArm] at h
  · rintro ⟨p, f, c, hr⟩
    exact ⟨_, hr, by simp [RcRequest.isArm]⟩

theorem RcRequest.isUpdate_iff {x : Bank} {q : RcRequest} : q.isUpdate x = true ↔ ∃ c, q = .update x c := by
  cases q with
  | update y c =>
    simp only [RcRequest.isUpdate, beq_iff_eq, RcRequest.update.injEq, exists_and_left, exists_eq', and_true]
    exact eq_comm
  | arm _ _ _ _ => simp [RcRequest.isUpdate]
  | abandon _ => simp [RcRequest.isUpdate]
  | force _ => simp [RcRequest.isUpdate]

/-- What an abandon leaves (R90). -/
theorem State.abandon_effect {s : State} {x : Bank} (h : s.run.banks.find .filling = some x) :
    s.abandon.run.banks.get x.other = s.run.banks.get x.other
      ∧ ((∃ p f c, .arm x p f c ∈ s.run.queue) → s.abandon.run.banks.get x = { s.run.banks.get x with state := .free, armed := false }
          ∧ s.abandon.run.queue = (s.run.queue.filter fun q => !(q.isUpdate x || q.isForce x)).filter fun q => !q.isArm x)
      ∧ ((∀ p f c, .arm x p f c ∉ s.run.queue) → s.abandon.run.banks.get x = { s.run.banks.get x with state := .closing }
          ∧ s.abandon.run.queue = (s.run.queue.filter fun q => !(q.isUpdate x || q.isForce x)) ++ [.abandon x]) := by
  have hnone : (∀ p f c, .arm x p f c ∉ s.run.queue) → ¬ s.run.queue.any (·.isArm x) = true := by
    intro h hany
    obtain ⟨p, f, c, hmem⟩ := any_isArm.1 hany
    exact h p f c hmem
  unfold State.abandon
  rw [h]
  dsimp only
  refine ⟨?_, fun harm => ?_, fun harm => ?_⟩
  · split <;> simp [State.onBanks, State.unqueue]
  · rw [if_pos (any_isArm.2 harm)]
    simp [State.onBanks, State.unqueue, BankEntry.free]
  · rw [if_neg (hnone harm)]
    simp [State.onBanks, State.unqueue]

/-- An UPDATE that waits is replaced where it stands, else one is put at the tail (R91). -/
theorem withUpdate_effect (x : Bank) (t : TrigCodes) (q : List RcRequest) :
    ((∀ c, .update x c ∉ q) → withUpdate x t q = q ++ [.update x t])
      ∧ (∀ pre c rest, q = pre ++ .update x c :: rest → (∀ d, .update x d ∉ pre) → (∀ d, .update x d ∉ rest) →
          withUpdate x t q = pre ++ .update x t :: rest) := by
  have hsame {l : List RcRequest} (h : ∀ d, .update x d ∉ l) : l.map (fun r => if r.isUpdate x then .update x t else r) = l := by
    refine (List.map_congr_left fun r hr => ?_).trans (List.map_id' l)
    exact if_neg fun hu => by
      obtain ⟨c, rfl⟩ := RcRequest.isUpdate_iff.1 hu
      exact h c hr
  refine ⟨fun h => ?_, fun pre c rest hq hpre hrest => ?_⟩
  · have hany : ¬ q.any (·.isUpdate x) = true := by
      rw [List.any_eq_true]
      rintro ⟨r, hr, hu⟩
      obtain ⟨c, rfl⟩ := RcRequest.isUpdate_iff.1 hu
      exact h c hr
    rw [withUpdate, if_neg hany]
  · have hany : q.any (·.isUpdate x) = true :=
      List.any_eq_true.2 ⟨.update x c, by simp [hq], RcRequest.isUpdate_iff.2 ⟨c, rfl⟩⟩
    rw [withUpdate, if_pos hany, hq, List.map_append, List.map_cons, hsame hpre, hsame hrest]
    simp [RcRequest.isUpdate]

/-- A trigger update puts the codes in the queue of an acquisition in flight (R91). -/
def State.updated (s : State) : State :=
  if s.table.acquire.acqState.inFlight then
    match s.run.banks.find .filling with
    | some x => s.onRun fun r => { r with queue := withUpdate x s.planner.trig r.queue }
    | none => s
  else s

theorem State.updated_frame (s : State) :
    s.updated.table = s.table ∧ s.updated.planner = s.planner ∧ s.updated.clock = s.clock ∧ s.updated.run.banks = s.run.banks
      ∧ s.updated.run.autoTimer = s.run.autoTimer := by
  unfold State.updated
  (repeat' split) <;> exact ⟨rfl, rfl, rfl, rfl, rfl⟩

theorem State.triggerUpdate_eq (before : TrigMode) (s : State) :
    s.triggerUpdate before =
      if s.table.acquire.acqState = .ready ∧ s.planner.trig.mode ≠ before then
        (if s.planner.trig.mode = .auto then s.updated.startAutoTimer else s.updated.cancelAutoTimer)
      else s.updated := by
  obtain ⟨htable, hplanner, -⟩ := s.updated_frame
  have hunfold : s.triggerUpdate before =
      if s.updated.table.acquire.acqState = .ready ∧ s.updated.planner.trig.mode ≠ before then
        (match s.updated.planner.trig.mode with | .auto => s.updated.startAutoTimer | .normal => s.updated.cancelAutoTimer)
      else s.updated := rfl
  rw [hunfold, htable, hplanner]
  cases s.planner.trig.mode <;> simp

/-- What a trigger update leaves (R91). -/
theorem State.triggerUpdate_effect (before : TrigMode) (s : State) :
    (s.triggerUpdate before).table = s.table ∧ (s.triggerUpdate before).run.banks = s.run.banks
      ∧ (s.triggerUpdate before).run.queue = s.updated.run.queue
      ∧ (s.triggerUpdate before).run.autoTimer =
          if s.table.acquire.acqState = .ready ∧ s.planner.trig.mode ≠ before then
            (if s.planner.trig.mode = .auto then some (after s.clock.now (1000 * s.planner.plan.autoMs.toNat)) else none)
          else s.run.autoTimer := by
  obtain ⟨htable, hplanner, hclock, hbanks, htimer⟩ := s.updated_frame
  rw [s.triggerUpdate_eq before]
  (repeat' split) <;> simp [htable, hplanner, hclock, hbanks, htimer]

/-- Settles O36. -/
theorem ownerEventsStopAcquisition : Obligations.OwnerEventsStopAcquisition := by
  refine ⟨fun s n hr => ⟨fun hn => ?_, fun hn => ?_⟩, fun s => ?_, fun s x hx => ?_, fun s before => ?_⟩
  · have htake : s.begin.takeOwnerFault =
        ({ s.begin with inbox := { s.inbox with ownerFault := n } } : State).commit .fault (runStateDraft s.table .stop) := by
      simp [State.takeOwnerFault, hn]
    obtain ⟨hstop, hintents, hsame, hstamps⟩ :=
      State.commit_stop (o := .fault) (s := { s.begin with inbox := { s.inbox with ownerFault := n } }) rfl s.begin_table
    refine ⟨_, command_next _ s hr, ?_⟩
    have hinbox : s.begin.takeOwnerFault.inbox = { s.inbox with ownerFault := n } := by rw [htake]; simp
    rw [← htake] at hstop hintents hsame hstamps
    clear htake
    generalize s.begin.takeOwnerFault = u at *
    refine ⟨hstop, hinbox, hintents, fun h => ?_, hstamps⟩
    rw [hsame h]
    simp [State.sameBut]
  · by_cases hsingle : s.table.acquire.runState = .single
    · have htake : s.begin.takeOwnerRun =
          ({ s.begin with inbox := { s.inbox with ownerRun := n } } : State).commit .run (runStateDraft s.table .stop) := by
        simp [State.takeOwnerRun, hn, hsingle]
      obtain ⟨hstop, hintents, -, hstamps⟩ :=
          State.commit_stop (o := .run) (s := { s.begin with inbox := { s.inbox with ownerRun := n } }) rfl s.begin_table
      have hgo : s.table.acquire.runState ≠ .stop := by rw [hsingle]; decide
      obtain ⟨hcounter, hstamp, -⟩ := hstamps hgo
      refine ⟨_, command_next _ s hr, ?_⟩
      have hinbox : s.begin.takeOwnerRun.inbox = { s.inbox with ownerRun := n } := by rw [htake]; simp
      rw [← htake] at hstop hintents hcounter hstamp
      clear htake
      generalize s.begin.takeOwnerRun = u at *
      exact ⟨hinbox, hintents, fun _ => ⟨hstop, hcounter, hstamp⟩, fun h => absurd hsingle h⟩
    · have htake : s.begin.takeOwnerRun = ({ s.begin with inbox := { s.inbox with ownerRun := n } } : State) := by
        simp [State.takeOwnerRun, hn, hsingle]
      refine ⟨_, command_next _ s hr, ?_⟩
      rw [htake]
      exact ⟨rfl, rfl, fun h => absurd h hsingle, fun _ => by simp [State.sameBut]⟩
  · exact s.handover_effect
  · obtain ⟨hother, harm, hno⟩ := State.abandon_effect hx
    exact ⟨by simp, by simp, hother, harm, hno⟩
  · obtain ⟨htable, hbanks, hqueue, htimer⟩ := s.triggerUpdate_effect before
    refine ⟨htable, hbanks, fun hidle => ?_, fun x hflight hx => ?_, fun hready hbefore hauto => ?_, fun hready hbefore hnormal => ?_,
      fun hstay => ?_⟩
    · have hsame : s.updated = s := by simp [State.updated, hidle]
      have hnotReady : ¬ (s.table.acquire.acqState = .ready ∧ s.planner.trig.mode ≠ before) := by
        rintro ⟨hready, -⟩
        rw [hready] at hidle
        exact absurd hidle (by decide)
      rw [s.triggerUpdate_eq before, if_neg hnotReady, hsame]
    · have hupdated : s.updated.run.queue = withUpdate x s.planner.trig s.run.queue := by simp [State.updated, hflight, hx]
      rw [hqueue, hupdated]
      exact withUpdate_effect x s.planner.trig s.run.queue
    · rw [htimer, if_pos ⟨hready, by rw [hauto, hbefore]; decide⟩, if_pos hauto]
    · rw [htimer, if_pos ⟨hready, by rw [hnormal, hbefore]; decide⟩, if_neg (by rw [hnormal]; decide)]
    · rw [htimer, if_neg]
      rintro ⟨hready, hmode⟩
      exact hstay.elim (fun h => h hready) hmode

end Sys2Proof.Machine

/-! The Storage Engine's operations: detection, the phases of a write and of a recall, and their timeouts (R139, R148 to R155). -/

namespace Sys2Proof.Machine

/-! ## STORE and ERASE (R148, R149, R152) -/

theorem State.endedFailed.congr {o : OpInHand} {r : Reason} {e : SlotEntry} {s s' t t' : State} (h : State.endedFailed o r e s t)
    (hresult : s'.engine.result = s.engine.result) (hdirectory : s'.engine.directory = s.engine.directory) (hfaults : s'.faults = s.faults)
    (hstate : t'.table.system.storeState = t.table.system.storeState) (hengine : t'.engine = t.engine) (hfaults' : t'.faults = t.faults) :
    State.endedFailed o r e s' t' := by
  unfold State.endedFailed State.ended at *
  rw [hresult, hdirectory, hfaults, hstate, hengine, hfaults']
  exact h

/-- An error that the flash reports ends a write FAILED with its sector classified (R149, R152). -/
theorem State.failRead_endedFailed (o : OpInHand) (r : Reason) (sector : List Byte) (s : State) :
    State.endedFailed o r (classify s.table sector).entry s (s.failRead o r sector) :=
  ((s.issueFlash (.read (slotAddress o.slot))).failWrite_endedFailed o r (classify s.table sector).entry).congr rfl rfl rfl rfl rfl rfl

/-- A timeout ends a write FAILED with its slot DAMAGED and the flash perhaps still busy (R149). -/
theorem State.failTimeout_endedFailed (o : OpInHand) (s : State) :
    State.endedFailed o .timeout .damaged s (s.failTimeout o) ∧ (s.failTimeout o).engine.flashBusy = true
      ∧ (s.failTimeout o).engine.waitReady = false ∧ (s.failTimeout o).table.settings = s.table.settings
      ∧ (s.failTimeout o).out = s.out := by
  refine ⟨?_, ?_, ?_, by simp, ?_⟩
  · exact (State.failWrite_endedFailed _ o .timeout .damaged).congr (by simp [State.onEngine]) (by simp [State.onEngine])
      (by simp [State.onEngine]) rfl rfl rfl
  · simp [State.failTimeout, State.failWrite, State.endOp_engine, State.setSlot, State.onEngine]
  · simp [State.failTimeout, State.failWrite, State.endOp_engine]
  · simp [State.failTimeout]

theorem slotAddress_eq (n : Nat) : slotAddress n = 4096 * n := rfl

theorem pageAddress_eq (n p : Nat) : pageAddress n p = 4096 * n + 256 * p := rfl

section
variable {s : State} {o : OpInHand} {status : Byte} (sector : List Byte)

theorem State.storeErased_cases (h : s.engine.inPhase .store (some .erase) = some o) :
    (status.getLsbD 0 = true → s.storeErased status sector = s)
      ∧ (status.getLsbD 0 = false → status.getLsbD 5 = true → s.storeErased status sector = s.failRead o .eraseFail sector)
      ∧ (status.getLsbD 0 = false → status.getLsbD 5 = false → s.storeErased status sector = s.programPage o.slot 1) := by
  simp only [State.storeErased, h]
  cases status.getLsbD 0 <;> cases status.getLsbD 5 <;> simp

theorem State.pageProgrammed_cases {p : Nat} (h : s.engine.inPhase .store (some .program) = some o) (hp : s.engine.page = some p) :
    (status.getLsbD 0 = true → s.pageProgrammed status sector = s)
      ∧ (status.getLsbD 0 = false → status.getLsbD 6 = true → s.pageProgrammed status sector = s.failRead o .programFail sector)
      ∧ (status.getLsbD 0 = false → status.getLsbD 6 = false → 1 ≤ p → p ≤ 15 →
          s.pageProgrammed status sector = s.programPage o.slot (if p = 15 then 0 else p + 1))
      ∧ (status.getLsbD 0 = false → status.getLsbD 6 = false → p = 0 →
          s.pageProgrammed status sector = (s.onEngine fun e => { e with phase := some .verify, page := none, deadline := none }).issueFlash
            (.read (slotAddress o.slot))) := by
  simp only [State.pageProgrammed, h, hp]
  generalize status.getLsbD 0 = busy
  generalize status.getLsbD 6 = failed
  refine ⟨fun h0 => by simp [h0], fun h0 h6 => by simp [h0, h6], fun h0 h6 hlow hhigh => ?_, fun h0 h6 hzero => by simp [h0, h6, hzero]⟩
  have hne : p ≠ 0 := by omega
  by_cases hlast : p = 15
  · simp [h0, h6, hlast]
  · have hlt : p < 15 := by omega
    simp [h0, h6, hne, hlast, hlt]

theorem State.verifySector_cases (h : s.engine.inPhase .store (some .verify) = some o) :
    (∀ i, classify s.table sector = .valid i → sector = s.engine.image →
        s.verifySector sector = (s.setSlot o.slot (Classified.valid i).entry).endOp o .done)
      ∧ (sector ≠ s.engine.image ∨ (∀ i, classify s.table sector ≠ .valid i) →
          s.verifySector sector = s.failWrite o .verifyFail (classify s.table sector).entry) := by
  simp only [State.verifySector, h]
  cases hclass : classify s.table sector with
  | valid i =>
    refine ⟨fun j hj hsame => ?_, fun hother => ?_⟩
    · obtain rfl : i = j := by simpa using hj
      exact if_pos hsame
    · have hdiffers : sector ≠ s.engine.image := hother.resolve_right fun hnone => hnone i rfl
      exact if_neg hdiffers
  | empty => simp
  | damaged => simp
  | foreign => simp

theorem State.slotErased_cases (h : s.engine.inPhase .erase none = some o) :
    (status.getLsbD 0 = true → s.slotErased status sector = s)
      ∧ (status.getLsbD 0 = false → status.getLsbD 5 = true → s.slotErased status sector = s.failRead o .eraseFail sector)
      ∧ (status.getLsbD 0 = false → status.getLsbD 5 = false → s.slotErased status sector = (s.setSlot o.slot .empty).endOp o .done) := by
  simp only [State.slotErased, h]
  cases status.getLsbD 0 <;> cases status.getLsbD 5 <;> simp

end

/-- An operation that ends with its slot's entry set records its result and reports nothing (R143, R145). -/
theorem State.setSlot_endOp (o : OpInHand) (e : SlotEntry) (r : OpOutcome) (s : State) :
    s.ended o r ((s.setSlot o.slot e).endOp o r) ∧ ((s.setSlot o.slot e).endOp o r).engine.directory = s.engine.directory.set o.slot e
      ∧ ((s.setSlot o.slot e).endOp o r).faults = s.faults := by
  refine ⟨?_, ?_, ?_⟩
  · simpa [State.ended, State.setSlot, State.onEngine] using (s.setSlot o.slot e).endOp_ended o r
  · simp [State.endOp_engine, State.setSlot, State.onEngine]
  · simp [State.setSlot, State.onEngine]

/-- Settles O58. -/
theorem writesRunTheirPhases : Obligations.WritesRunTheirPhases := by
  intro s o status sector hr hlen hop hwait
  have hphase {op : Operation} {ph : Option Phase} (ho : o.op = op) (hp : s.engine.phase = ph) :
      s.begin.engine.inPhase op ph = some o := by
    subst ho
    exact Engine.inPhase_some _ o ph hop hp hwait
  have hok : sectorOk sector = true := by simp [sectorOk, hlen, sectorBytes]
  refine ⟨fun ho hp => ⟨_, exec_of_running hr (by simp [Instr.wellFormed, hok]), ?_⟩,
    fun p ho hp hpage => ⟨_, exec_of_running hr (by simp [Instr.wellFormed, hok]), ?_⟩,
    fun ho hp => ⟨_, exec_of_running hr (by simp [Instr.wellFormed, hok]), ?_⟩,
    fun ho hp => ⟨_, exec_of_running hr (by simp [Instr.wellFormed, hok]), ?_⟩⟩ <;> rw [commandEffect]
  · obtain ⟨hbusy, herror, hdone⟩ := State.storeErased_cases (status := status) sector (hphase ho hp)
    refine ⟨fun h => ?_, fun h h5 => ?_, fun h h5 => ?_⟩
    · rw [hbusy h]
      exact s.sameBut_begin_settle
    · rw [herror h h5]
      exact State.failRead_endedFailed o .eraseFail sector s.begin
    · rw [hdone h h5]
      obtain ⟨hengine, hflash⟩ := s.begin.programPage_effect o.slot 1
      exact ⟨by simp [State.sameBut, State.programPage, State.onEngine, State.issueFlash], hengine, hflash⟩
  · obtain ⟨hbusy, herror, hnext, hlast⟩ := State.pageProgrammed_cases (status := status) sector (hphase ho hp) hpage
    refine ⟨fun h => ?_, fun h h6 => ?_, fun h h6 hlow hhigh => ?_, fun h h6 hzero => ?_⟩
    · rw [hbusy h]
      exact s.sameBut_begin_settle
    · rw [herror h h6]
      exact State.failRead_endedFailed o .programFail sector s.begin
    · rw [hnext h h6 hlow hhigh]
      obtain ⟨hengine, hflash⟩ := s.begin.programPage_effect o.slot (if p = 15 then 0 else p + 1)
      refine ⟨by simp [State.sameBut, State.programPage, State.onEngine, State.issueFlash], ?_, hflash⟩
      simp [hengine, hp]
    · rw [hlast h h6 hzero]
      simp [State.sameBut, State.onEngine, State.issueFlash, noOutputs, slotAddress_eq]
  · obtain ⟨hdone, hfail⟩ := State.verifySector_cases sector (hphase ho hp)
    refine ⟨by simp, fun i hi hsame => ?_, fun hother => ?_⟩
    · rw [hdone i hi hsame]
      exact State.setSlot_endOp o _ .done s.begin
    · rw [hfail hother]
      exact State.failWrite_endedFailed s.begin o .verifyFail _
  · obtain ⟨hbusy, herror, hdone⟩ := State.slotErased_cases (status := status) sector (hphase ho hp)
    refine ⟨by simp, fun h => ?_, fun h h5 => ?_, fun h h5 => ?_⟩
    · rw [hbusy h]
      exact s.sameBut_begin_settle
    · rw [herror h h5]
      exact State.failRead_endedFailed o .eraseFail sector s.begin
    · rw [hdone h h5]
      exact State.setSlot_endOp o .empty .done s.begin

/-! ## Timeouts and the wait for the flash (R149) -/

/-- The first flash operation of the operation in hand (R144). -/
theorem State.startFlash_of_op {s : State} {o : OpInHand} (h : s.engine.op = some o) :
    s.startFlash = if o.op.recalls then s.firstFlashOp (.read (slotAddress o.slot)) none
      else s.firstFlashOp (.sectorErase (slotAddress o.slot)) (some 2000000) := by
  simp only [State.startFlash, h]
  cases o.op <;> rfl

/-- A flash that is not busy is given the operation at once (R149). -/
theorem State.firstFlashOp_of_idle (op : FlashOp) (limit : Option Nat) {s : State} (h : s.engine.flashBusy = false) :
    s.firstFlashOp op limit =
      (s.onEngine fun e => { e with waitReady := false, deadline := limit.map (after s.clock.now) }).issueFlash op :=
  if_neg (by simp [h])

/-- Settles O59. -/
theorem timeoutsAndTheWaitForReady : Obligations.TimeoutsAndTheWaitForReady := by
  intro s o hr hop
  have hop' : s.begin.engine.op = some o := hop
  refine ⟨fun c hc => ?_, fun hwait => ⟨_, command_next _ s hr, ?_⟩⟩
  · have hfails : exec c s = .next (s.begin.failTimeout o).settle := by
      rcases hc with ⟨rfl, ho, hp⟩ | ⟨rfl, ho, hp, hw⟩ | ⟨rfl, ho⟩
      · refine (command_next _ s hr).trans ?_
        simp [State.storeEraseTimeout, hop, ho, hp]
      · refine (command_next _ s hr).trans ?_
        rw [State.pageTimeout, ← ho, Engine.inPhase_some _ o _ hop' hp hw]
      · refine (command_next _ s hr).trans ?_
        simp [State.slotEraseTimeout, hop, ho]
    obtain ⟨hended, hbusy, hready, hsettings, hout⟩ := State.failTimeout_endedFailed o s.begin
    exact ⟨_, hfails, hended, hbusy, hready, hsettings, hout⟩
  · have hready : s.begin.flashReady = (s.begin.onEngine fun e => { e with flashBusy := false, waitReady := false }).startFlash :=
      if_pos hwait
    have hready' : (s.begin.onEngine fun e => { e with flashBusy := false, waitReady := false }).engine.op = some o := hop
    rw [hready, State.startFlash_of_op hready']
    by_cases hrecalls : o.op.recalls = true
    · have hwrites : ¬ (o.op = .store ∨ o.op = .erase) := by
        rintro (h | h) <;> rw [h] at hrecalls <;> exact absurd hrecalls (by decide)
      rw [if_pos hrecalls, State.firstFlashOp_of_idle _ _ rfl]
      exact ⟨by simp [State.sameBut, State.onEngine, State.issueFlash], rfl, rfl, hop, fun h => absurd h hwrites, fun _ => ⟨rfl, rfl⟩⟩
    · rw [if_neg hrecalls, State.firstFlashOp_of_idle _ _ rfl]
      exact ⟨by simp [State.sameBut, State.onEngine, State.issueFlash], rfl, rfl, hop, fun _ => ⟨rfl, rfl⟩, fun h => absurd h hrecalls⟩

/-! ## Recalls (R43, R150, R151) -/

/-- What a failed recall leaves of the settings (R43, R151). -/
theorem State.defaultsInstead_settings (o : OpInHand) (s : State) :
    (s.defaultsInstead o).table.settings =
      if o.op = .defaults then (eventTable .defaults (factoryDraft s.table) s.table).settings else s.table.settings := by
  unfold State.defaultsInstead
  split
  · exact s.commit_settings .defaults _
  · rfl

@[simp] theorem State.defaultsInstead_engine (o : OpInHand) (s : State) :
    (s.defaultsInstead o).engine = s.engine ∧ (s.defaultsInstead o).faults = s.faults := by
  unfold State.defaultsInstead State.factoryDefaults
  split <;> simp

theorem State.arm_system (s : State) : s.arm.table.system = s.table.system := by
  cases hfree : s.run.banks.find .free with
  | none => rw [(s.arm_of_none hfree).1]
  | some x => rw [(s.arm_of_free x hfree).1]

theorem State.handover_system (s : State) : s.handover.table.system = s.table.system := by
  rcases s.handover_state with h | h | h | h | h <;> rw [h]
  · rfl
  · simp [State.setAcqState_table, State.cleared]
  · rw [State.arm_system]
    rfl
  · simp [State.setAcqState_table, State.cleared]
  · rw [State.arm_system]
    simp [State.cleared]

/-- An event leaves the SYSTEM record as its draft has it (R3, R4). -/
theorem State.commit_system (o : Owner) {d : Draft} {s : State} (hd : d.table.system = s.table.system) :
    (s.commit o d).table.system = s.table.system := by
  by_cases hnothing : alteredRefs s.table (d.planned s.table) = [] ∧ d.created = [] ∧ d.retired = []
  · obtain ⟨ha, hc, hr⟩ := hnothing
    rw [s.commit_of_nothing o d ha hc hr]
  · obtain ⟨u, ⟨htable, -⟩, hcommit⟩ := s.commit_handOver o d hnothing
    obtain ⟨-, hsystem, -⟩ := eventTable_acquire o d s.table hnothing
    have hplanned : (d.planned s.table).table.system = d.table.system := by
      unfold Draft.planned
      split <;> rfl
    have hu : u.table.system = s.table.system := by rw [htable, hsystem, hplanned, hd]
    rw [hcommit, State.handOver]
    split
    · simp [State.handover_system, hu]
    · split
      · simp [hu]
      · exact hu

theorem Table.system_of_ledger {t u : Table} (h : t.ledger = u.ledger) : t.system = u.system := by
  have hsystem := congrArg (·.2.2.2.2.2.1) h
  exact hsystem

theorem State.factoryDefaults_system (s : State) : s.factoryDefaults.table.system = s.table.system := by
  obtain ⟨hledger, -⟩ := factoryDraft_lawful s.table
  have hsystem := Table.system_of_ledger hledger
  unfold State.factoryDefaults
  exact State.commit_system (d := factoryDraft s.table) .defaults hsystem

theorem State.endOp_table (o : OpInHand) (r : OpOutcome) (s : State) :
    (s.endOp o r).table = { s.table with system := { s.table.system with storeState := .idle } } := by
  simp [State.endOp, State.setStoreState_table, State.onEngine]

/-- A recall that fails, with the settings that it leaves (R43, R145, R151). -/
theorem State.failedRecall {o : OpInHand} {r : OpOutcome} {s u : State} (hresult : u.engine.result = s.engine.result) (htable : u.table = s.table) :
    s.ended o r ((u.endOp o r).defaultsInstead o)
      ∧ ((u.endOp o r).defaultsInstead o).table.settings =
          (if o.op = .defaults then (eventTable .defaults
              (factoryDraft { s.table with system := { s.table.system with storeState := .idle } })
              { s.table with system := { s.table.system with storeState := .idle } }).settings else s.table.settings)
      ∧ ((u.endOp o r).defaultsInstead o).engine.directory = u.engine.directory
      ∧ ((u.endOp o r).defaultsInstead o).faults = u.faults := by
  obtain ⟨hstate, hop, hphase, hpage, hrecord⟩ := u.endOp_ended o r
  obtain ⟨hdirectory, -, -, -, -, -, hfaults, -⟩ := u.endOp_engine o r
  have hend := u.endOp_table o r
  have hsettings := (u.endOp o r).defaultsInstead_settings o
  obtain ⟨hengine, hfaults'⟩ := (u.endOp o r).defaultsInstead_engine o
  have hsystem : ((u.endOp o r).defaultsInstead o).table.system = (u.endOp o r).table.system := by
    unfold State.defaultsInstead
    split
    · exact (u.endOp o r).factoryDefaults_system
    · rfl
  have hidle : (u.endOp o r).table.settings = s.table.settings := by
    rw [hend, htable]
    rfl
  rw [hidle, hend, htable] at hsettings
  refine ⟨⟨?_, ?_, ?_, ?_, ?_⟩, hsettings, ?_, hfaults'.trans hfaults⟩
  · rw [hsystem]
    exact hstate
  · rw [hengine]
    exact hop
  · rw [hengine]
    exact hphase
  · rw [hengine]
    exact hpage
  · rw [hengine, hrecord, hresult]
  · rw [hengine]
    exact hdirectory

/-- What the read of a recall's sector leads to (R150). -/
theorem State.recallSector_cases {s : State} {o : OpInHand} (sector : List Byte) (hop : s.engine.op = some o) (hrecalls : o.op.recalls = true)
    (hp : s.engine.phase = some .read) (hw : s.engine.waitReady = false) :
    (∀ i, classify s.table sector = .valid i →
        s.recallSector sector = s.onEngine fun e => { e with image := sector, deadline := none, phase := some .apply })
      ∧ ((∀ i, classify s.table sector ≠ .valid i) →
          s.recallSector sector = ((((s.onEngine fun e => { e with image := sector, deadline := none }).setSlot o.slot .damaged).report
            .imageDamaged (some (.slot o.slot))).endOp o (.failed .damaged)).defaultsInstead o) := by
  have hread : o.op.recalls = true ∧ s.engine.phase = some .read ∧ (!s.engine.waitReady) = true := ⟨hrecalls, hp, by simp [hw]⟩
  simp only [State.recallSector, hop, if_pos hread]
  cases hclass : classify s.table sector with
  | valid i =>
    have hclass' : classify (s.onEngine fun e => { e with image := sector, deadline := none }).table sector = .valid i := hclass
    exact ⟨fun _ _ => by simp only [State.onEngine, hclass], fun hnone => absurd rfl (hnone i)⟩
  | empty => exact ⟨fun i hi => (nomatch hi), fun _ => by simp only [State.onEngine, hclass]⟩
  | damaged => exact ⟨fun i hi => (nomatch hi), fun _ => by simp only [State.onEngine, hclass]⟩
  | foreign => exact ⟨fun i hi => (nomatch hi), fun _ => by simp only [State.onEngine, hclass]⟩

/-- Settles O60. -/
theorem recallsReadAndApply : Obligations.RecallsReadAndApply := by
  intro s o hr hop hrecalls ended failed
  have hop' : s.begin.engine.op = some o := hop
  refine ⟨fun sector hlen hp hw => ⟨_, exec_of_running hr (by simp [Instr.wellFormed, sectorOk, hlen, sectorBytes]), ?_⟩,
      fun hp hw => ⟨_, command_next _ s hr, ?_⟩,
    fun i hp hi => ⟨_, command_next _ s hr, ?_⟩⟩
  · rw [commandEffect]
    obtain ⟨hvalid, hother⟩ := State.recallSector_cases sector hop' hrecalls hp hw
    refine ⟨fun i hi => ?_, fun hnone => ?_⟩
    · rw [hvalid i hi]
      simp [State.sameBut, State.onEngine]
    · rw [hother hnone]
      obtain ⟨hended, hsettings, hdirectory, hfaults⟩ := State.failedRecall (o := o) (r := .failed .damaged) (s := s)
        (u := ((s.begin.onEngine fun e => { e with image := sector, deadline := none }).setSlot o.slot .damaged).report .imageDamaged
          (some (.slot o.slot))) rfl rfl
      refine ⟨hended, hsettings, hdirectory, ?_⟩
      have hreported := ((s.begin.onEngine fun e => { e with image := sector, deadline := none }).setSlot o.slot .damaged).report_reported
        .imageDamaged (some (.slot o.slot))
      rw [State.settle_faults, hfaults]
      exact hreported
  · have htimeout : s.begin.recallTimeout =
        (((s.begin.arriveOpt s.engine.deadline).report .storeFail (some (.storeFail o.slot .timeout))).endOp o
          (.failed .timeout)).defaultsInstead o := by
      simp [State.recallTimeout, hop, hrecalls, hp, hw]
    rw [htimeout]
    obtain ⟨hended, hsettings, hdirectory, hfaults⟩ := State.failedRecall (o := o) (r := .failed .timeout) (s := s)
      (u := (s.begin.arriveOpt s.engine.deadline).report .storeFail (some (.storeFail o.slot .timeout))) (by simp) (by simp)
    refine ⟨hended, hsettings, hdirectory.trans (by simp), ?_⟩
    have hreported := (s.begin.arriveOpt s.engine.deadline).report_reported .storeFail (some (.storeFail o.slot .timeout))
    rw [State.settle_faults, hfaults]
    simpa using hreported
  · have happly : s.begin.applyImage = (s.begin.commit o.op.owner (recallDraft s.table i o.mask)).endOp o .done := by
      simp [State.applyImage, hop, hrecalls, hp, hi]
    have howner : o.op.owner = if o.op = .defaults then .defaults else .recall := by
      cases o.op <;> rfl
    have hsettings := s.begin.commit_settings o.op.owner (recallDraft s.table i o.mask)
    obtain ⟨-, hengine, -, hfaults, -⟩ := s.begin.commit_frame o.op.owner (recallDraft s.table i o.mask)
    rw [happly, ← howner]
    rw [State.begin_table] at hsettings
    generalize s.begin.commit o.op.owner (recallDraft s.table i o.mask) = u at *
    obtain ⟨hstate, hop, hphase, hpage, hrecord⟩ := u.endOp_ended o .done
    obtain ⟨hdirectory, -, -, -, -, -, hfaults', -⟩ := u.endOp_engine o .done
    rw [hengine] at hrecord hdirectory
    exact ⟨⟨hstate, hop, hphase, hpage, hrecord⟩, hdirectory, hfaults'.trans hfaults, (u.endOp_settings o .done).trans hsettings⟩

end Sys2Proof.Machine

/-! The start-up of the Storage Engine (R139, R143, R154, R155). -/

namespace Sys2Proof.Machine

theorem State.detecting_of {s : State} (hstate : s.table.system.storeState = .scanning) (hpresent : s.table.system.storePresent = false) :
    s.detecting = true := by
  simp [State.detecting, hstate, hpresent]

theorem State.detectFlash_absent {a b c : Byte} {s : State} (hdetecting : s.detecting = true) (hno : noFlash a b c = true) :
    s.detectFlash a b c = ((s.onEngine fun e => { e with deadline := none }).issueFlash .identification).setStoreState .absent := by
  simp only [State.detectFlash, if_pos hdetecting, if_pos hno]

theorem State.detectFlash_present {a b c : Byte} {s : State} (hdetecting : s.detecting = true) (hno : noFlash a b c = false) :
    s.detectFlash a b c = (List.range 32).foldl (fun s slot => State.issueFlash (.read (slotAddress slot)) s)
      (((s.onEngine fun e => { e with deadline := none }).issueFlash .identification).setStorePresent true) := by
  simp only [State.detectFlash, if_pos hdetecting, hno]
  rfl

/-- The scan's result before slot 0 is looked at (R154). -/
def State.scanned (sectors : List (List Byte)) (s : State) : State :=
  s.onEngine fun e => { e with directory := sectors.map fun x => (classify s.table x).entry }

/-- What slot 0 makes of the start-up (R155). -/
theorem State.scanSlots_cases {s : State} (first : List Byte) (rest : List (List Byte)) (hstate : s.table.system.storeState = .scanning)
    (hpresent : s.table.system.storePresent = true) :
    (∀ i, classify s.table first = .valid i → s.scanSlots (first :: rest) =
        (s.scanned (first :: rest)).beginOp .recalling { op := .powerOn, slot := 0, mask := .all } (some .read))
      ∧ (classify s.table first = .empty → s.scanSlots (first :: rest) = (s.scanned (first :: rest)).setStoreState .idle)
      ∧ (classify s.table first = .damaged → s.scanSlots (first :: rest) =
          ((s.scanned (first :: rest)).report .imageDamaged (some (.slot 0))).startUpFails .damaged)
      ∧ (classify s.table first = .foreign → s.scanSlots (first :: rest) = (s.scanned (first :: rest)).startUpFails .foreign) := by
  have hscan : s.table.system.storeState = .scanning ∧ s.table.system.storePresent = true := ⟨hstate, hpresent⟩
  simp only [State.scanSlots, if_pos hscan]
  cases hclass : classify s.table first <;> simp [State.scanned, State.onEngine, hclass, Classified.entry]

/-- Settles O57. -/
theorem startUpDetectsAndScans : Obligations.StartUpDetectsAndScans := by
  intro s hr hscanning
  refine ⟨fun a b c hpresent => ⟨_, command_next _ s hr, by simp, fun hno => ?_, fun hno => ?_⟩,
    fun hpresent => ⟨_, command_next _ s hr, by simp, ?_⟩,
    fun sectors first rest hpresent hsectors hwell => ⟨_, exec_of_running hr hwell, ?_⟩⟩
  · rw [State.detectFlash_absent (State.detecting_of (s := s.begin) hscanning hpresent) hno]
    simp [State.setStoreState_table]
  · rw [State.detectFlash_present (State.detecting_of (s := s.begin) hscanning hpresent) hno]
    refine ⟨?_, ?_⟩
    · rw [State.settle_table, (State.readAllSlots_frame _ _).1]
      simp [State.setStorePresent_table]
    · rw [State.settle_out, State.readSlots_out]
      simp [State.issueFlash, State.onEngine, noOutputs, slotAddress_eq]
  · have htimeout : s.begin.detectTimeout =
        ((s.begin.arriveOpt s.engine.deadline).onEngine fun e => { e with deadline := none }).setStoreState .absent :=
      if_pos (State.detecting_of (s := s.begin) hscanning hpresent)
    rw [htimeout]
    simp [State.setStoreState_table]
  · subst hsectors
    rw [commandEffect]
    obtain ⟨hvalid, hempty, hdamaged, hforeign⟩ := State.scanSlots_cases (s := s.begin) first rest hscanning hpresent
    refine ⟨by simp, ?_, fun i hi => ?_, fun hi => ?_, fun hi => ?_, fun hi => ?_⟩
    · cases hclass : classify s.table first with
      | valid i =>
        rw [hvalid i hclass]
        obtain ⟨-, hengine⟩ := (s.begin.scanned (first :: rest)).beginOp_effect .recalling { op := .powerOn, slot := 0, mask := .all } (some .read)
        have hdirectory := congrArg Engine.directory hengine
        exact hdirectory
      | empty =>
        rw [hempty hclass]
        simp [State.scanned, State.onEngine]
      | damaged =>
        rw [hdamaged hclass]
        simp [State.startUpFails, State.endOp_engine, State.scanned, State.onEngine]
      | foreign =>
        rw [hforeign hclass]
        simp [State.startUpFails, State.endOp_engine, State.scanned, State.onEngine]
    · rw [hvalid i hi]
      obtain ⟨hstate, -, hop, hphase⟩ :=
        (s.begin.scanned (first :: rest)).beginOp_begun .recalling { op := .powerOn, slot := 0, mask := .all } (some .read)
      exact ⟨hstate, hphase, hop⟩
    · rw [hempty hi]
      simp [State.setStoreState_table, State.scanned, State.onEngine]
    · rw [hdamaged hi]
      refine ⟨State.endOp_ended _ _ _, ?_⟩
      have hreported := (s.begin.scanned (first :: rest)).report_reported .imageDamaged (some (.slot 0))
      simpa [State.startUpFails, State.endOp_engine, State.scanned, State.onEngine] using hreported
    · rw [hforeign hi]
      exact ⟨State.endOp_ended _ _ _, by simp [State.startUpFails, State.scanned, State.onEngine]⟩

end Sys2Proof.Machine

/-! The Lamp Driver: the phases of an error blink, the PWM period, and how an event and a status update evaluate the lamps. -/

namespace Sys2Proof.Machine

/-! ## Error blinks (R63) -/

theorem Lamp.endPhase_cycles {l : Lamp} {n : Nat} (h : l.state = .blinking (.cycles n)) (now : Time) :
    l.endPhase now = if l.lit then { l with lit := false, phaseEnd := some (after now 75000) }
      else if n ≤ 1 then l.settle l.bound
      else { l with state := .blinking (.cycles (n - 1)), lit := true, phaseEnd := some (after now 75000) } := by
  rw [Lamp.endPhase, h]

/-- Settles O44. -/
theorem errorBlinkRunsItsCycles : Obligations.ErrorBlinkRunsItsCycles := by
  intro s k l due n hr hl hdue hn
  refine ⟨_, exec_of_running hr rfl, ?_, fun j hj => ?_, fun hlit => ?_, fun hlit hlt => ?_, fun hlit hle => ?_⟩
  · simp [State.sameBut, commandEffect, State.blinkPhase, hl, hdue]
  · simp [commandEffect, State.blinkPhase, hl, hdue, hj.symm]
  · simp [commandEffect, State.blinkPhase, hl, hdue, Lamp.endPhase_cycles hn, hlit]
  · simp [commandEffect, State.blinkPhase, hl, hdue, Lamp.endPhase_cycles hn, hlit, Nat.not_le.mpr hlt]
  · have hsettle : l.endPhase (s.begin.arrive due).clock.now = l.settle l.bound := by simp [Lamp.endPhase_cycles hn, hlit, hle]
    have hentry : ((s.begin.blinkPhase k).settle).lamps.entries[k.val]? = some (l.settle l.bound) := by
      simp [State.blinkPhase, hl, hdue, ← hsettle]
    refine hentry.trans ?_
    cases hb : l.bound <;> simp [Lamp.settle, BoundState.state, hlit]

/-! ## One place of a list visited by a fold -/

/-- A fold over distinct elements passes from `P` to `Q` where it visits `k`, when every other element keeps both. -/
theorem foldl_visits {α β : Type} {f : β → α → β} {l : List α} {k : α} {P Q : β → Prop} (hk : k ∈ l) (hnd : l.Nodup)
    (hbefore : ∀ u j, j ≠ k → P u → P (f u j)) (hat : ∀ u, P u → Q (f u k)) (hafter : ∀ u j, j ≠ k → Q u → Q (f u j))
    {start : β} (h : P start) : Q (l.foldl f start) := by
  induction l generalizing start with
  | nil => simp at hk
  | cons x xs ih =>
    obtain ⟨hx, hxs⟩ := List.nodup_cons.mp hnd
    by_cases hxk : x = k
    · subst hxk
      exact List.foldlRecOn xs f (hat _ h) fun u hu j hj => hafter u j (ne_of_mem_of_not_mem hj hx) hu
    · exact ih (List.mem_of_ne_of_mem (Ne.symm hxk) hk) hxs (hbefore _ _ hxk h)

/-! ## The PWM period (R62, R64) -/

/-- A class of the fault table with its status set. -/
def Faults.raised (c : FaultClass) (f : Faults) : Prop := ∃ e, f.entries[c.index]? = some e ∧ e.status = true

/-- The fault table has an entry for the class. -/
def Faults.lists (c : FaultClass) (f : Faults) : Prop := ∃ e, f.entries[c.index]? = some e

theorem State.report_raises {c : FaultClass} {s : State} (h : s.faults.lists c) (d : Option FaultDetail) :
    (s.report c d).faults.raised c := by
  obtain ⟨e, he⟩ := h
  exact ⟨_, (s.report_reported c d).1 e he, rfl⟩

/-- A report ends no other: a raised class stays raised. -/
theorem State.report_raised {c : FaultClass} {s : State} (h : s.faults.raised c) (c' : FaultClass) (d : Option FaultDetail) :
    (s.report c' d).faults.raised c := by
  obtain ⟨e, he, hstatus⟩ := h
  obtain ⟨hsame, hother, -⟩ := s.report_reported c' d
  by_cases hc : c.index = c'.index
  · rw [hc] at he
    exact ⟨_, hc ▸ hsame e he, rfl⟩
  · exact ⟨e, (hother _ hc).trans he, hstatus⟩

theorem State.report_lists {c : FaultClass} {s : State} (h : s.faults.lists c) (c' : FaultClass) (d : Option FaultDetail) :
    (s.report c' d).faults.lists c := by
  obtain ⟨e, he⟩ := h
  obtain ⟨hsame, hother, -⟩ := s.report_reported c' d
  by_cases hc : c.index = c'.index
  · rw [hc] at he
    exact ⟨_, hc ▸ hsame e he⟩
  · exact ⟨e, (hother _ hc).trans he⟩

/-- What one lamp's sensing reads: its own entry, and what the lamps share. -/
def State.lampView (k : Nat) (s : State) : Option Lamp × Bool × Nat × Table :=
  (s.lamps.entries[k]?, s.lamps.flashLit, s.lamps.onTime, s.table)

theorem State.senseLamp_other (opens : BitVec 24) {j k : Nat} (h : j ≠ k) (s : State) :
    (s.senseLamp opens j).lampView k = s.lampView k := by
  unfold State.senseLamp State.lampView
  dsimp only
  (repeat' split) <;> simp [h]

/-- The sensing of a lamp leaves the fault table or reports in it. -/
theorem State.senseLamp_faults (opens : BitVec 24) (j : Nat) (s : State) :
    ∃ u : State, u.faults = s.faults ∧ ((s.senseLamp opens j).faults = u.faults
      ∨ (s.senseLamp opens j).faults = (u.report .lampOpen (some (.lamp j))).faults) := by
  unfold State.senseLamp
  split
  · refine ⟨{ s with lamps := _ }, rfl, ?_⟩
    dsimp only
    split
    · exact .inr rfl
    · exact .inl rfl
  · exact ⟨s, rfl, .inl rfl⟩

theorem State.senseLamp_raised {opens : BitVec 24} {c : FaultClass} {s : State} (h : s.faults.raised c) (j : Nat) :
    (s.senseLamp opens j).faults.raised c := by
  obtain ⟨u, hu, hsame | hreport⟩ := s.senseLamp_faults opens j
  · rwa [hsame, hu]
  · rw [hreport]
    exact State.report_raised (hu ▸ h) _ _

theorem State.senseLamp_lists {opens : BitVec 24} {c : FaultClass} {s : State} (h : s.faults.lists c) (j : Nat) :
    (s.senseLamp opens j).faults.lists c := by
  obtain ⟨u, hu, hsame | hreport⟩ := s.senseLamp_faults opens j
  · rwa [hsame, hu]
  · rw [hreport]
    exact State.report_lists (hu ▸ h) _ _

theorem State.senseLamp_at {opens : BitVec 24} {k : Nat} {l : Lamp} {b : Lampbind} {s : State} (hl : s.lamps.entries[k]? = some l)
    (hb : s.table.lampbinds[k]? = some b) :
    (s.senseLamp opens k).lamps.entries[k]? = some (l.sense b.diag s.lamps.flashLit (opens.getLsbD k) s.lamps.onTime).1
      ∧ ((l.sense b.diag s.lamps.flashLit (opens.getLsbD k) s.lamps.onTime).2 = true → s.faults.lists .lampOpen →
          (s.senseLamp opens k).faults.raised .lampOpen) := by
  have hk : k < s.lamps.entries.length := (List.getElem?_eq_some_iff.mp hl).1
  unfold State.senseLamp
  simp only [hl, hb]
  refine ⟨by split <;> simp [hk], fun hfails hlists => ?_⟩
  rw [if_pos hfails]
  exact State.report_raises hlists _

/-- A PWM period has begun with its on-time, and no lamp is sensed yet. -/
def State.periodBegun (s : State) : State :=
  let s := s.arrive s.clock.pwmAt
  { s with lamps := { s.lamps with onTime := lampOnTime s.table }
           clock := { s.clock with pwmAt := after s.clock.now 4096 } }

theorem State.lampPeriod_eq (opens : BitVec 24) (s : State) :
    s.lampPeriod opens = (List.range 24).foldl (State.senseLamp opens) s.periodBegun := rfl

theorem State.senseLamps_onTime (opens : BitVec 24) (l : List Nat) (s : State) :
    (l.foldl (State.senseLamp opens) s).lamps.onTime = s.lamps.onTime := by
  have hsense (u : State) (j : Nat) : (u.senseLamp opens j).lamps.onTime = u.lamps.onTime := by
    unfold State.senseLamp
    dsimp only
    (repeat' split) <;> simp
  induction l generalizing s with
  | nil => rfl
  | cons j l ih => rw [List.foldl_cons, ih, hsense]

theorem State.lampPeriod_onTime (opens : BitVec 24) (s : State) : (s.lampPeriod opens).lamps.onTime = lampOnTime s.table := by
  rw [State.lampPeriod_eq, State.senseLamps_onTime]
  simp [State.periodBegun]

/-- Lamp `k` has become `r.1`, and LAMP_OPEN is reported in the table `f` where it failed. -/
def State.sensed (k : Nat) (r : Lamp × Bool) (f : Faults) (u : State) : Prop :=
  u.lamps.entries[k]? = some r.1 ∧ (r.2 = true → f.lists .lampOpen → u.faults.raised .lampOpen)

/-- What a period leaves of one lamp (R62, R64). -/
theorem State.lampPeriod_sensed {opens : BitVec 24} {k : Nat} {l : Lamp} {b : Lampbind} {s : State} (hk : k < 24)
    (hl : s.lamps.entries[k]? = some l) (hb : s.table.lampbinds[k]? = some b) :
    (s.lampPeriod opens).sensed k (l.sense b.diag s.lamps.flashLit (opens.getLsbD k) (lampOnTime s.table)) s.faults := by
  rw [State.lampPeriod_eq]
  refine foldl_visits (P := fun u : State => u.lampView k = (some l, s.lamps.flashLit, lampOnTime s.table, s.table)
      ∧ (s.faults.lists .lampOpen → u.faults.lists .lampOpen))
    (List.mem_range.mpr hk) List.nodup_range ?_ ?_ ?_ ?_
  · rintro u j hj ⟨hview, hlists⟩
    exact ⟨(u.senseLamp_other opens hj).trans hview, fun h => State.senseLamp_lists (hlists h) j⟩
  · rintro u ⟨hview, hlists⟩
    simp only [State.lampView, Prod.mk.injEq] at hview
    obtain ⟨hentry, hlit, hon, htable⟩ := hview
    obtain ⟨hat, hfails⟩ := State.senseLamp_at (opens := opens) hentry (htable ▸ hb)
    rw [hlit, hon] at hat hfails
    exact ⟨hat, fun h hl => hfails h (hlists hl)⟩
  · rintro u j hj ⟨hentry, hraised⟩
    have hview := u.senseLamp_other opens hj
    exact ⟨(congrArg (·.1) hview).trans hentry, fun h hl => State.senseLamp_raised (hraised h hl) j⟩
  · exact ⟨by simp [State.lampView, State.periodBegun, hl], fun h => by simpa [State.periodBegun] using h⟩

/-! ## Evaluations (R61) -/

theorem Table.get_of_absent {t : Table} {r : Ref} (h : t.has r.key = false) : t.get r = none := by
  obtain ⟨⟨c, n⟩, f⟩ := r
  cases c <;> simp_all [Table.has, Table.get]

theorem evalLamp_of_absent {t : Table} {b : Lampbind} (h : ∀ r, b.target = some r → t.get r = none) : evalLamp t b = .off := by
  unfold evalLamp
  split
  · rfl
  · next r hr => rw [h r hr]

theorem evalLamp_of_value {t : Table} {b : Lampbind} {r : Ref} {v : Value} (hr : b.target = some r) (hv : t.get r = some v) :
    evalLamp t b = match b.mode with
      | .onEqual => if v = b.value.getD .absent then .on else .off
      | .onNotEqual => if v = b.value.getD .absent then .off else .on
      | .blinkEqual => if v = b.value.getD .absent then .flash else .off := by
  cases hm : b.mode <;> simp [evalLamp, hr, hv, hm]

theorem evalLamp_congr {t u : Table} {b : Lampbind} (h : ∀ r, b.target = some r → t.get r = u.get r) : evalLamp t b = evalLamp u b := by
  unfold evalLamp
  split
  · rfl
  · next r hr => rw [h r hr]

theorem Lamp.record_follows (l : Lamp) (b : BoundState) : l.follows (l.record b) b := by
  obtain ⟨st, bound, opens, lit, phaseEnd⟩ := l
  rcases st with _ | _ | (_ | n) | _ <;> cases b <;> simp [Lamp.follows, Lamp.record, BoundState.state]

@[simp] theorem Lamp.record_opens (l : Lamp) (b : BoundState) : (l.record b).opens = l.opens := by
  unfold Lamp.record
  split <;> rfl

/-- The last evaluation counts. -/
@[simp] theorem Lamp.record_record (l : Lamp) (b c : BoundState) : (l.record b).record c = l.record c := by
  obtain ⟨st, bound, opens, lit, phaseEnd⟩ := l
  rcases st with _ | _ | (_ | n) | _ <;> cases b <;> rfl

@[simp] theorem Lamp.record_rebind (l : Lamp) (b c : BoundState) : (l.record b).rebind c = l.rebind c := by
  obtain ⟨st, bound, opens, lit, phaseEnd⟩ := l
  rcases st with _ | _ | (_ | n) | _ <;> cases b <;> rfl

@[simp] theorem Lamp.rebind_record (l : Lamp) (b c : BoundState) : (l.rebind b).record c = l.rebind c := by
  obtain ⟨st, bound, opens, lit, phaseEnd⟩ := l
  rcases st with _ | _ | (_ | n) | _ <;> cases b <;> rfl

theorem Lamp.rebind_of_failed {l : Lamp} (h : l.state = .failed) (b : BoundState) : l.rebind b = { l.settle b with opens := 0 } := by
  rw [Lamp.rebind, h]

theorem Lamp.rebind_of_not_failed {l : Lamp} (h : l.state ≠ .failed) (b : BoundState) : l.rebind b = { l.record b with opens := 0 } := by
  unfold Lamp.rebind
  split
  · next hf => exact absurd hf h
  all_goals rfl

/-! ## What status updates do to the lamps (R3, R61) -/

/-- The field a binding names holds another value in `u` than in `t`. -/
def Lampbind.changed (b : Lampbind) (t u : Table) : Bool := b.target.any fun r => decide (u.get r ≠ t.get r)

theorem evalLamp_of_unchanged {t u : Table} {b : Lampbind} (h : b.changed t u = false) : evalLamp u b = evalLamp t b :=
  evalLamp_congr fun r hr => by simpa [Lampbind.changed, hr] using h

/-- The bindings of `t` are those of `s`, and each bound lamp has been evaluated with the values of `t` where its field differs. -/
def State.lampsFollow (s t : State) : Prop :=
  t.table.lampbinds = s.table.lampbinds ∧ ∀ (k : Nat) (l : Lamp) (b : Lampbind), s.lamps.entries[k]? = some l →
    s.table.lampbinds[k]? = some b →
    t.lamps.entries[k]? = some (if b.changed s.table t.table then l.record (evalLamp t.table b) else l)

theorem State.lampsFollow_of_same {s t : State} (ht : t.table = s.table) (hl : t.lamps = s.lamps) : s.lampsFollow t := by
  refine ⟨by rw [ht], fun k l b hk _ => ?_⟩
  rw [hl, ht, hk]
  simp [Lampbind.changed]

theorem State.lampsFollow.trans {s u t : State} (h : s.lampsFollow u) (h' : u.lampsFollow t)
    (honce : ∀ r, u.table.get r ≠ s.table.get r → t.table.get r = u.table.get r) : s.lampsFollow t := by
  obtain ⟨hbinds, hlamps⟩ := h
  obtain ⟨hbinds', hlamps'⟩ := h'
  refine ⟨hbinds'.trans hbinds, fun k l b hl hb => ?_⟩
  rw [hlamps' k _ b (hlamps k l b hl hb) (hbinds ▸ hb)]
  cases hfirst : b.changed s.table u.table with
  | false =>
    have hsame : b.changed s.table t.table = b.changed u.table t.table := by
      cases hr : b.target with
      | none => simp [Lampbind.changed, hr]
      | some r =>
        have hget : u.table.get r = s.table.get r := by simpa [Lampbind.changed, hr] using hfirst
        simp [Lampbind.changed, hr, hget]
    simp [hsame]
  | true =>
    obtain ⟨r, hr, hget⟩ : ∃ r, b.target = some r ∧ u.table.get r ≠ s.table.get r := by
      simpa [Lampbind.changed, Option.any_eq_true] using hfirst
    have hkept := honce r hget
    have hsecond : b.changed u.table t.table = false := by simp [Lampbind.changed, hr, hkept]
    have hboth : b.changed s.table t.table = true := by simp [Lampbind.changed, hr, hkept, hget]
    simp [hsecond, hboth, evalLamp_of_unchanged hsecond]

theorem State.statusUpdate_lampsFollow {r : Ref} {w : Table → Table} {s : State} (hbinds : (w s.table).lampbinds = s.table.lampbinds)
    (hget : ∀ q, q ≠ r → (w s.table).get q = s.table.get q) : s.lampsFollow (s.statusUpdate r w) := by
  unfold State.statusUpdate
  dsimp only
  split
  · exact State.lampsFollow_of_same rfl rfl
  · next hr =>
    refine ⟨hbinds, fun k l b hl hb => ?_⟩
    have hchanged : b.changed s.table (w s.table) = b.target.any (· == r) := by
      cases ht : b.target with
      | none => simp [Lampbind.changed, ht]
      | some q =>
        by_cases hq : q = r
        · simp [Lampbind.changed, ht, hq, hr]
        · simp [Lampbind.changed, ht, hq, hget q hq]
    simp only [State.recompose, State.notifyLamps, List.getElem?_mapIdx, hl, hbinds, hb, Option.map_some, hchanged]
    cases ht : b.target <;> simp

/-- A field of ACQUIRE written by the Run Controller leaves every other field of the table. -/
theorem Table.get_of_acquire {t : Table} {a : Acquire} {r : Ref} (hkey : r.key = acquireKey)
    (ha : ∀ f, f ≠ r.field → a.get f = t.acquire.get f) (q : Ref) (hq : q ≠ r) : { t with acquire := a }.get q = t.get q := by
  obtain ⟨⟨c, n⟩, f⟩ := q
  have hacquire : c = .acquire → n = 1 → a.get f = t.acquire.get f := by
    rintro rfl rfl
    refine ha f fun hf => hq ?_
    obtain ⟨key, field⟩ := r
    subst hkey hf
    rfl
  cases c
  case acquire =>
    by_cases hn : n = 1
    · simp [Table.get, hacquire rfl hn]
    · simp [Table.get, hn]
  all_goals rfl

theorem setAcqState_writes (v : AcqState) (t : Table) (q : Ref) (hq : q ≠ acqStateRef) :
    { t with acquire := { t.acquire with acqState := v } }.get q = t.get q :=
  Table.get_of_acquire rfl (fun f hf => by cases f <;> first | rfl | exact absurd rfl hf) q hq

theorem setTrigStatus_writes (v : TrigStatus) (t : Table) (q : Ref) (hq : q ≠ trigStatusRef) :
    { t with acquire := { t.acquire with trigStatus := v } }.get q = t.get q :=
  Table.get_of_acquire rfl (fun f hf => by cases f <;> first | rfl | exact absurd rfl hf) q hq

theorem State.setAcqState_lampsFollow (v : AcqState) (s : State) : s.lampsFollow (s.setAcqState v) :=
  State.statusUpdate_lampsFollow rfl (setAcqState_writes v s.table)

theorem State.setTrigStatus_lampsFollow (v : TrigStatus) (s : State) : s.lampsFollow (s.setTrigStatus v) :=
  State.statusUpdate_lampsFollow rfl (setTrigStatus_writes v s.table)

theorem State.lampsFollow.congr {s u t : State} (h : u.lampsFollow t) (ht : u.table = s.table) (hl : u.lamps = s.lamps) :
    s.lampsFollow t := by
  unfold State.lampsFollow at *
  rwa [← ht, ← hl]

/-- acq_state and then trig_status written: two fields, each once. -/
theorem State.setAcqState_setTrigStatus_lampsFollow (v : AcqState) (w : TrigStatus) (s : State) :
    s.lampsFollow ((s.setAcqState v).setTrigStatus w) := by
  refine State.lampsFollow.trans (State.setAcqState_lampsFollow v s) (State.setTrigStatus_lampsFollow w _) fun r hr => ?_
  rw [State.setTrigStatus_table]
  refine setTrigStatus_writes _ _ r fun htrig => hr ?_
  rw [State.setAcqState_table]
  exact setAcqState_writes _ _ r (by rw [htrig]; decide)

theorem State.arm_lampsFollow (s : State) : s.lampsFollow s.arm := by
  unfold State.arm
  split
  · exact State.setAcqState_lampsFollow _ s
  · exact (State.setAcqState_setTrigStatus_lampsFollow _ _ _).congr rfl rfl

/-- A handover writes acq_state and trig_status alone, each once, and has their lamps follow (R89). -/
theorem State.handover_lampsFollow (s : State) : s.lampsFollow s.handover := by
  have habandon : s.cleared.abandon.table = s.table ∧ s.cleared.abandon.lamps = s.lamps := by simp [State.cleared]
  rcases s.handover_state with h | h | h | h | h <;> rw [h]
  · exact State.lampsFollow_of_same rfl rfl
  · exact (State.setAcqState_lampsFollow _ _).congr rfl rfl
  · exact s.cleared.arm_lampsFollow.congr rfl rfl
  · exact (State.setAcqState_lampsFollow _ _).congr habandon.1 habandon.2
  · exact s.cleared.abandon.arm_lampsFollow.congr habandon.1 habandon.2

/-- `t` is `s` with other values of acq_state and trig_status. -/
def Table.acquires (t u : Table) : Prop :=
  u = { t with acquire := { t.acquire with acqState := u.acquire.acqState, trigStatus := u.acquire.trigStatus } }

theorem State.arm_acquires (s : State) : s.table.acquires s.arm.table := by
  unfold Table.acquires
  cases hfree : s.run.banks.find .free with
  | none => rw [(s.arm_of_none hfree).1]
  | some x => rw [(s.arm_of_free x hfree).1]

theorem State.handover_acquires (s : State) : s.table.acquires s.handover.table := by
  have hcleared : s.cleared.table = s.table := rfl
  have habandon : s.cleared.abandon.table = s.table := by simp [hcleared]
  rcases s.handover_state with h | h | h | h | h <;> rw [h]
  · rfl
  · rw [State.setAcqState_table]
    rfl
  · exact hcleared ▸ s.cleared.arm_acquires
  · rw [State.setAcqState_table, habandon]
    rfl
  · exact habandon ▸ s.cleared.abandon.arm_acquires

theorem State.handOver_lampsFollow (before : TrigMode) (altered : List Ref) (s : State) :
    s.lampsFollow (s.handOver before altered) ∧ s.table.acquires (s.handOver before altered).table
      ∧ (planAltered altered = false → (s.handOver before altered).table = s.table) := by
  unfold State.handOver
  split
  · next hplan =>
    generalize hu : { s with planner := plannerOf s.table } = u
    have htable : u.table = s.table := by rw [← hu]
    have hlamps : u.lamps = s.lamps := by rw [← hu]
    refine ⟨?_, ?_, fun h => by rw [hplan] at h; cases h⟩
    · have h := u.handover_lampsFollow
      unfold State.lampsFollow at *
      simpa [htable, hlamps] using h
    · have h := u.handover_acquires
      rw [htable] at h
      simpa using h
  · split
    · refine ⟨State.lampsFollow_of_same (by simp) (by simp), ?_, fun _ => by simp⟩
      simp [Table.acquires]
    · exact ⟨State.lampsFollow_of_same rfl rfl, rfl, fun _ => rfl⟩

/-! ## What an event does to the lamps (R60, R61) -/

/-- An event alters a field, or creates or retires its record. -/
def Draft.touches (d : Draft) (altered : List Ref) (r : Ref) : Bool :=
  altered.contains r || d.created.contains r.key || d.retired.contains r.key

/-- An event alters a field of lamp `k`'s own binding. -/
def rebinds (altered : List Ref) (k : Nat) : Bool := altered.any fun r => r.key == ⟨.lampbind, k⟩

/-- A lamp after the notifications of stage 8, with the values of the table `t`. -/
def Lamp.notified (d : Draft) (altered : List Ref) (t : Table) (k : Nat) (b : Lampbind) (l : Lamp) : Lamp :=
  if rebinds altered k then l.rebind (evalLamp t b)
  else if b.target.any (d.touches altered) then l.record (evalLamp t b) else l

theorem State.notifyLamps_lamp (p : Ref → Bool) {s : State} {k : Nat} {l : Lamp} {b : Lampbind} (hl : s.lamps.entries[k]? = some l)
    (hb : s.table.lampbinds[k]? = some b) :
    (s.notifyLamps p).lamps.entries[k]? = some (if b.target.any p then l.record (evalLamp s.table b) else l) := by
  simp only [State.notifyLamps, List.getElem?_mapIdx, hl, hb, Option.map_some]
  cases ht : b.target <;> simp

theorem State.rebindLamps_lamp (altered : List Ref) {s : State} {k : Nat} {l : Lamp} {b : Lampbind}
    (hl : s.lamps.entries[k]? = some l) (hb : s.table.lampbinds[k]? = some b) :
    (s.rebindLamps altered).lamps.entries[k]? = some (if rebinds altered k then l.rebind (evalLamp s.table b) else l) := by
  simp only [State.rebindLamps, List.getElem?_mapIdx, hl, hb, Option.map_some, rebinds]
  rfl

/-- An event that alters, creates or retires something: its table, its lamps notified, and then the hand-over (R4). -/
theorem State.commit_notified (s : State) (o : Owner) (d : Draft)
    (h : ¬ (alteredRefs s.table (d.planned s.table) = [] ∧ d.created = [] ∧ d.retired = [])) :
    ∃ u : State, u.table = eventTable o d s.table
      ∧ (∀ (k : Nat) (l : Lamp) (b : Lampbind), s.lamps.entries[k]? = some l → u.table.lampbinds[k]? = some b →
          u.lamps.entries[k]? = some (l.notified d (alteredRefs s.table (d.planned s.table)) u.table k b))
      ∧ s.commit o d = u.handOver s.table.trigger.mode (alteredRefs s.table (d.planned s.table)) := by
  have h' : ((alteredRefs s.table (d.planned s.table)).isEmpty && d.created.isEmpty && d.retired.isEmpty) = false := by
    rw [Bool.eq_false_iff]
    intro hc
    exact h (by simpa [and_assoc] using hc)
  unfold State.commit eventTable
  simp only [h', Bool.false_eq_true, if_false, State.notify]
  generalize hv : dropIntents o (alteredRefs s.table (d.planned s.table)) (stampEvent (alteredRefs s.table (d.planned s.table))
      (d.planned s.table)) = v
  refine ⟨_, ?_, fun k l b hl hb => ?_, rfl⟩
  · split <;> simp
  · have htable (c : Prop) [Decidable c] (u : State) : (if c then u.recompose else u).table = u.table := by split <;> rfl
    have hlamps (c : Prop) [Decidable c] (u : State) : (if c then u.recompose else u).lamps = u.lamps := by split <;> rfl
    rw [htable] at hb ⊢
    rw [hlamps]
    simp only [State.stopRepeats_table, State.rebindLamps_table, State.notifyLamps_table, State.stopRepeats_lamps] at hb ⊢
    rw [State.rebindLamps_lamp _ (State.notifyLamps_lamp _ (s := { s with table := v }) hl hb) hb]
    simp only [Lamp.notified, State.notifyLamps_table, Draft.planned_created, Draft.planned_retired]
    split
    · split <;> simp
    · rfl

/-- What an event with the status updates it brings leaves of a lamp: rebound, evaluated, or as it was. -/
theorem State.commit_lamp (s : State) (o : Owner) (d : Draft) {k : Nat} {l : Lamp} {b : Lampbind} (hl : s.lamps.entries[k]? = some l)
    (hb : (eventTable o d s.table).lampbinds[k]? = some b) :
    (s.commit o d).table.lampbinds = (eventTable o d s.table).lampbinds
      ∧ (s.commit o d).lamps.entries[k]? = some (
        if rebinds (alteredRefs s.table (d.planned s.table)) k then l.rebind (evalLamp (s.commit o d).table b)
        else if b.target.any (d.touches (alteredRefs s.table (d.planned s.table))) || b.changed (eventTable o d s.table) (s.commit o d).table
          then l.record (evalLamp (s.commit o d).table b) else l) := by
  by_cases hnothing : alteredRefs s.table (d.planned s.table) = [] ∧ d.created = [] ∧ d.retired = []
  · obtain ⟨ha, hc, hr⟩ := hnothing
    have htable := eventTable_of_nothing o d s.table ha hc hr
    rw [s.commit_of_nothing o d ha hc hr, htable]
    refine ⟨rfl, ?_⟩
    cases ht : b.target <;> simp [rebinds, Draft.touches, Lampbind.changed, ha, hc, hr, hl, ht]
  · obtain ⟨u, htable, hlamps, hcommit⟩ := s.commit_notified o d hnothing
    obtain ⟨⟨hbinds, hfollow⟩, -⟩ := u.handOver_lampsFollow s.table.trigger.mode (alteredRefs s.table (d.planned s.table))
    rw [hcommit, ← htable]
    rw [← htable] at hb
    generalize hv : u.handOver s.table.trigger.mode (alteredRefs s.table (d.planned s.table)) = v at *
    refine ⟨hbinds, ?_⟩
    rw [hfollow k _ b (hlamps k l b hl hb) hb]
    unfold Lamp.notified
    cases hchanged : b.changed u.table v.table with
    | true => (repeat' split) <;> simp_all
    | false =>
      rw [evalLamp_of_unchanged hchanged]
      simp

/-- An event changes the table as its stages 4 to 7 do, and the status updates of its hand-over write acq_state and trig_status alone. -/
theorem State.commit_acquires (s : State) (o : Owner) (d : Draft) :
    (eventTable o d s.table).acquires (s.commit o d).table
      ∧ (planAltered (alteredRefs s.table (d.planned s.table)) = false → (s.commit o d).table = eventTable o d s.table) := by
  by_cases hnothing : alteredRefs s.table (d.planned s.table) = [] ∧ d.created = [] ∧ d.retired = []
  · obtain ⟨ha, hc, hr⟩ := hnothing
    rw [s.commit_of_nothing o d ha hc hr, eventTable_of_nothing o d s.table ha hc hr]
    exact ⟨rfl, fun _ => rfl⟩
  · obtain ⟨u, htable, -, hcommit⟩ := s.commit_notified o d hnothing
    obtain ⟨-, hacquires, hsame⟩ := u.handOver_lampsFollow s.table.trigger.mode (alteredRefs s.table (d.planned s.table))
    rw [hcommit, ← htable]
    exact ⟨hacquires, hsame⟩

/-- A status update that changes its field evaluates the lamps bound to it. -/
theorem State.statusUpdate_lamp {r : Ref} {w : Table → Table} {s : State} {k : Nat} {l : Lamp} {b : Lampbind}
    (hchanged : (w s.table).get r ≠ s.table.get r) (hl : s.lamps.entries[k]? = some l) (hb : (w s.table).lampbinds[k]? = some b) :
    (s.statusUpdate r w).table = w s.table ∧ (s.statusUpdate r w).composer.recompose = true
      ∧ (s.statusUpdate r w).lamps.entries[k]? = some (if b.target.any (· == r) then l.record (evalLamp (w s.table) b) else l) := by
  have hupdate : s.statusUpdate r w = (State.notifyLamps (· == r) { s with table := w s.table }).recompose := by
    unfold State.statusUpdate
    exact if_neg hchanged
  rw [hupdate]
  exact ⟨rfl, rfl, State.notifyLamps_lamp (· == r) (s := { s with table := w s.table }) hl hb⟩

theorem rebinds_iff {altered : List Ref} {k : Nat} : rebinds altered k = true ↔ ∃ r ∈ altered, r.key = ⟨.lampbind, k⟩ := by
  simp [rebinds]

theorem Draft.bound_iff {d : Draft} {altered : List Ref} {b : Lampbind} {t u : Table} :
    (b.target.any (d.touches altered) || b.changed t u) = true ↔
      ∃ r, b.target = some r ∧ (r ∈ altered ∨ r.key ∈ d.created ∨ r.key ∈ d.retired ∨ u.get r ≠ t.get r) := by
  cases ht : b.target <;> simp [Lampbind.changed, Draft.touches, ht, or_assoc]

/-- A rebound lamp takes its evaluation, ends FAILED and counts anew (R60). -/
theorem Lamp.rebind_spec (l : Lamp) (e : BoundState) :
    (l.state ≠ .failed → l.follows (l.rebind e) e ∧ (l.rebind e).opens = 0)
      ∧ (l.state = .failed → (l.rebind e).opens = 0 ∧ (l.rebind e).phaseEnd = none ∧ (l.rebind e).bound = e
          ∧ (l.rebind e).state = match e with
            | .off => .off
            | .on => .on
            | .flash => .blinking .continuous) := by
  refine ⟨fun h => ?_, fun h => ?_⟩
  · rw [Lamp.rebind_of_not_failed h]
    exact ⟨l.record_follows e, rfl⟩
  · rw [Lamp.rebind_of_failed h]
    exact ⟨rfl, rfl, rfl, by cases e <;> rfl⟩

/-- A lamp's period by what is sensed of it (R64). -/
theorem Lamp.sense_spec (l : Lamp) (diag flash opens : Bool) (on : Nat) :
    (diag = false → (l.sense diag flash opens on).1 = { l with opens := 0 })
      ∧ (diag = true → ¬ (l.driven flash = true ∧ 16 ≤ on) → (l.sense diag flash opens on).1 = l)
      ∧ (diag = true → l.driven flash = true ∧ 16 ≤ on → opens = false → (l.sense diag flash opens on).1 = { l with opens := 0 })
      ∧ (diag = true → l.driven flash = true ∧ 16 ≤ on → opens = true → l.opens < 3 →
          (l.sense diag flash opens on).1 = { l with opens := l.opens + 1 })
      ∧ (diag = true → l.driven flash = true ∧ 16 ≤ on → opens = true → 3 ≤ l.opens →
          (l.sense diag flash opens on).1.state = .failed ∧ (l.sense diag flash opens on).1.phaseEnd = none
            ∧ (l.sense diag flash opens on).1.bound = l.bound ∧ (l.sense diag flash opens on).2 = true) := by
  have hsensed (h : l.driven flash = true ∧ 16 ≤ on) : (!(l.driven flash) || decide (on < 16)) = false := by simp [h.1, h.2]
  refine ⟨fun hd => by simp [Lamp.sense, hd], fun hd hs => ?_, fun hd hs ho => ?_, fun hd hs ho hlt => ?_, fun hd hs ho hge => ?_⟩
  · have hnot : (!(l.driven flash) || decide (on < 16)) = true := by
      cases h : l.driven flash <;> simp_all
    simp [Lamp.sense, hd, hnot]
  · simp [Lamp.sense, hd, hsensed hs, ho]
  · simp [Lamp.sense, hd, hsensed hs, ho, show l.opens + 1 < 4 by omega]
  · simp [Lamp.sense, hd, hsensed hs, ho, show ¬ l.opens + 1 < 4 by omega]

theorem State.lampPeriod_spec (opens : BitVec 24) {s t : State} {k : Nat} {l : Lamp} {b : Lampbind} (hk : k < 24)
    (hl : s.lamps.entries[k]? = some l) (hb : s.table.lampbinds[k]? = some b) (hlamps : t.lamps = (s.lampPeriod opens).lamps)
    (hfaults : t.faults = (s.lampPeriod opens).faults) :
    let sensed := l.driven s.lamps.flashLit = true ∧ 16 ≤ t.lamps.onTime
    (b.diag = false → t.lamps.entries[k]? = some { l with opens := 0 })
      ∧ (b.diag = true → ¬ sensed → t.lamps.entries[k]? = some l)
      ∧ (b.diag = true → sensed → opens.getLsbD k = false → t.lamps.entries[k]? = some { l with opens := 0 })
      ∧ (b.diag = true → sensed → opens.getLsbD k = true → l.opens < 3 →
          t.lamps.entries[k]? = some { l with opens := l.opens + 1 })
      ∧ (b.diag = true → sensed → opens.getLsbD k = true → 3 ≤ l.opens →
          (∃ l', t.lamps.entries[k]? = some l' ∧ l'.state = .failed ∧ l'.phaseEnd = none ∧ l'.bound = l.bound)
            ∧ ∀ f, s.faults.entries[FaultClass.lampOpen.index]? = some f →
              ∃ f', t.faults.entries[FaultClass.lampOpen.index]? = some f' ∧ f'.status = true) := by
  obtain ⟨hentry, hraised⟩ := State.lampPeriod_sensed (opens := opens) hk hl hb
  obtain ⟨hoff, hkept, hflows, hcounts, hfails⟩ := l.sense_spec b.diag s.lamps.flashLit (opens.getLsbD k) (lampOnTime s.table)
  intro sensed
  have honTime : t.lamps.onTime = lampOnTime s.table := by rw [hlamps, State.lampPeriod_onTime]
  rw [← hlamps] at hentry
  simp only [sensed, honTime]
  refine ⟨fun hd => by rw [hentry, hoff hd], fun hd hs => by rw [hentry, hkept hd hs], fun hd hs ho => by rw [hentry, hflows hd hs ho],
    fun hd hs ho hlt => by rw [hentry, hcounts hd hs ho hlt], fun hd hs ho hge => ?_⟩
  obtain ⟨hstate, hphase, hbound, hreport⟩ := hfails hd hs ho hge
  refine ⟨⟨_, hentry, hstate, hphase, hbound⟩, fun f hf => ?_⟩
  rw [hfaults]
  exact hraised hreport ⟨f, hf⟩

/-- Settles O43. -/
theorem lampPeriodSensesOpenLamps : Obligations.LampPeriodSensesOpenLamps := by
  refine ⟨fun opens s hr => ⟨_, exec_of_running hr rfl, ?_, ?_, ?_, fun k l b hk hl hb => ?_⟩, fun t b => ⟨fun hnone => ?_, ?_, ?_⟩, ?_, ?_, ?_⟩
  · simp [State.sameBut, commandEffect]
  · simp [commandEffect, State.lampPeriod]
  · simp [commandEffect, State.lampPeriod_onTime, lampOnTime]
  · exact State.lampPeriod_spec opens (s := s.begin) hk hl hb (by simp [commandEffect]) (by simp [commandEffect])
  · exact evalLamp_of_absent fun r hr => by rw [hnone] at hr; cases hr
  · intro r hr habsent
    refine evalLamp_of_absent fun q hq => ?_
    obtain rfl : r = q := Option.some.inj (hr.symm.trans hq)
    exact Table.get_of_absent habsent
  · intro r v hr hv
    rw [evalLamp_of_value hr hv]
    exact ⟨fun hm => by rw [hm], fun hm => by rw [hm], fun hm => by rw [hm]⟩
  · intro o d s k l b altered e t hl hb rebound bound
    obtain ⟨hbinds, hentry⟩ := s.commit_lamp o d hl hb
    refine ⟨hbinds, _, hentry, fun hre hf => ?_, fun hre hf => ?_, fun hre hbound => ?_, fun hre hbound => ?_⟩
    · rw [if_pos (rebinds_iff.mpr hre)]
      exact (l.rebind_spec _).1 hf
    · rw [if_pos (rebinds_iff.mpr hre)]
      exact (l.rebind_spec _).2 hf
    · rw [if_neg (mt rebinds_iff.mp hre), if_pos (Draft.bound_iff.mpr hbound)]
      exact ⟨l.record_follows _, l.record_opens _⟩
    · rw [if_neg (mt rebinds_iff.mp hre), if_neg (mt Draft.bound_iff.mp hbound)]
  · exact fun o d s => s.commit_acquires o d
  · intro s r w k l b hchanged hl hb t
    obtain ⟨htable, hrecompose, hentry⟩ := State.statusUpdate_lamp hchanged hl hb
    refine ⟨htable, hrecompose, fun ht => ⟨_, hentry, ?_⟩, fun ht => ?_⟩
    · rw [htable, ht]
      simpa using l.record_follows _
    · rw [hentry]
      cases hb : b.target <;> simp_all

end Sys2Proof.Machine

/-! Panel actions taken at the table (R15 to R17, R50 to R58): what an admitted one and a refused one leave. -/

namespace Sys2Proof.Machine

/-! ## The oldest waiting action of a row -/

theorem takeFirst_append {α : Type} {p : α → Bool} {pre rest : List α} {a : α} (hpre : pre.all (fun x => !p x) = true) (ha : p a = true) :
    takeFirst p (pre ++ a :: rest) = some (a, pre ++ rest) := by
  induction pre with
  | nil => simp [takeFirst, ha]
  | cons x xs ih =>
    obtain ⟨hx, hxs⟩ : p x = false ∧ xs.all (fun x => !p x) = true := by simpa using hpre
    simp [takeFirst, hx, ih hxs]

/-- The state with other actions waiting. -/
def State.withActions (l : List PanelAction) (s : State) : State := { s with inbox := { s.inbox with actions := l } }

@[simp] theorem State.withActions_frame (l : List PanelAction) (s : State) :
    (s.withActions l).table = s.table ∧ (s.withActions l).scanner = s.scanner ∧ (s.withActions l).lamps = s.lamps
      ∧ (s.withActions l).planner = s.planner ∧ (s.withActions l).run = s.run ∧ (s.withActions l).port = s.port
      ∧ (s.withActions l).composer = s.composer ∧ (s.withActions l).engine = s.engine ∧ (s.withActions l).link = s.link
      ∧ (s.withActions l).faults = s.faults ∧ (s.withActions l).clock = s.clock ∧ (s.withActions l).inReset = s.inReset
      ∧ (s.withActions l).out = s.out ∧ (s.withActions l).pending = s.pending
      ∧ (s.withActions l).inbox = { s.inbox with actions := l } :=
  ⟨rfl, rfl, rfl, rfl, rfl, rfl, rfl, rfl, rfl, rfl, rfl, rfl, rfl, rfl, rfl⟩

theorem State.takeWaiting_of_first {p : PanelAction → Bool} {pre rest : List PanelAction} {a : PanelAction} {s : State}
    (hq : s.inbox.actions = pre ++ a :: rest) (hpre : pre.all (fun x => !p x) = true) (ha : p a = true) :
    s.takeWaiting p = (s.withActions (pre ++ rest)).takeAction a := by
  rw [State.takeWaiting, hq, takeFirst_append hpre ha]
  rfl

/-- A row that has the table take the oldest waiting action of a kind. -/
theorem exec_takes {c : Instr} {p : PanelAction → Bool} {pre rest : List PanelAction} {a : PanelAction} {s : State}
    (hc : commandEffect c = State.takeWaiting p) (hw : c.wellFormed = true) (hr : s.inReset = false)
    (hq : s.inbox.actions = pre ++ a :: rest) (hpre : pre.all (fun x => !p x) = true) (ha : p a = true) :
    exec c s = .next ((s.begin.withActions (pre ++ rest)).takeAction a).settle := by
  rw [exec_of_running hr hw, hc, State.takeWaiting_of_first (s := s.begin) hq hpre ha]

/-! ## What the table does with an action (R15) -/

section
variable {s : State} {t : Table} {r : Ref} (ht : s.table = t) (hhas : t.has r.key = true)
include ht hhas

theorem State.takeAction_press (key : Fin 40) (act : KeyAction) (arg : Option Value) :
    s.takeAction (.press key act r arg) = if admitted t r then s.doPress key act r arg
      else s.refuse (.key key) (.key act) r true (refusedArg t key act r arg) := by
  simp [State.takeAction, ht, hhas]

theorem State.takeAction_detent (k : Fin 12) (d : Dir) (mult : Nat) :
    s.takeAction (.detent k r d mult) = if admitted t r then s.panelEvent (panelWrite t r (stepValue t r (d == .cw) mult))
      else s.refuseDetent k r d := by
  simp [State.takeAction, ht, hhas, detentWrite]

theorem State.takeAction_push (k : Fin 12) :
    s.takeAction (.push k r) = if admitted t r then s.panelEvent (panelWrite t r (pushValue t k))
      else s.refuse (.knob k) .push r true none := by
  simp [State.takeAction, ht, hhas]

end

theorem State.doPress_event {act : KeyAction} (hforce : act ≠ .force) (hdefaults : act ≠ .defaults) {s : State} {t : Table}
    (ht : s.table = t) (key : Fin 40) (r : Ref) (arg : Option Value) :
    s.doPress key act r arg = s.panelEvent (panelWrite t r (pressValue t (.key key) act r arg)) := by
  subst ht
  cases act
  case force => exact absurd rfl hforce
  case defaults => exact absurd rfl hdefaults
  all_goals rfl

/-- An admitted action that is one event of owner panel. -/
theorem exec_takes_event {c : Instr} {p : PanelAction → Bool} {pre rest : List PanelAction} {a : PanelAction} {s : State}
    {w : Table × List (Field × FieldOutcome)}
    (hc : commandEffect c = State.takeWaiting p) (hw : c.wellFormed = true) (hr : s.inReset = false)
    (hq : s.inbox.actions = pre ++ a :: rest) (hpre : pre.all (fun x => !p x) = true) (ha : p a = true)
    (htake : (s.begin.withActions (pre ++ rest)).takeAction a = (s.begin.withActions (pre ++ rest)).panelEvent w) :
    ∃ t : State, exec c s = .next t ∧ t.inbox = { s.inbox with actions := pre ++ rest }
      ∧ t.table.settings = (eventTable .panel (Draft.of w.1) s.table).settings
      ∧ s.sameBut [.table, .inbox, .scanner, .lamps, .planner, .run, .port, .composer, .out] t := by
  refine ⟨_, exec_takes hc hw hr hq hpre ha, ?_, ?_, ?_⟩
  · simp [htake, State.panelEvent]
  · simp only [htake, State.settle_table, State.panelEvent, State.commit_settings, State.withActions_frame, State.begin_table]
  · simp [htake, State.panelEvent, State.sameBut]

/-! ## A detent on a channel's offset (R25, R55, R57) -/

theorem nth1_of_getElem? {α : Type} {l : List α} {n : Nat} (hn : 1 ≤ n) {x : α} (h : l[n - 1]? = some x) : nth1 l n = some x := by
  rw [nth1, if_neg (by omega), h]

theorem modify1_of_getElem? {α : Type} {l : List α} {n : Nat} (hn : 1 ≤ n) {x : α} (h : l[n - 1]? = some x) (f : α → α) :
    modify1 l n f = l.set (n - 1) (f x) := by
  rw [modify1, if_neg (by omega)]
  refine List.ext_getElem? fun i => ?_
  by_cases hi : n - 1 = i
  · subst hi
    obtain ⟨hlen, rfl⟩ := List.getElem?_eq_some_iff.mp h
    simp [hlen]
  · simp [hi]

/-- The offset a detent asks for (R55, R57). -/
def Channel.detentOffset (c : Channel) (up : Bool) (mult : Nat) : Int :=
  if up then c.offset + c.scale / 50 * mult else c.offset - c.scale / 50 * mult

theorem stepValue_offset {t : Table} {n : Nat} {c : Channel} (hc : nth1 t.channels n = some c) (up : Bool) (mult : Nat) :
    stepValue t ⟨⟨.channel, n⟩, .chOffset⟩ up mult = some (.num (c.detentOffset up mult)) := by
  simp [stepValue, stepRule, hc, Table.get, Field.cls, Channel.get, floorDiv, Channel.detentOffset]

@[simp] theorem finishRecord_channels (old t : Table) (k : RecKey) : (finishRecord old t k).channels = t.channels := by
  have hcarry (n : ChannelName) (a b : Channel) (u : Table) : (carryLevel n a b u).channels = u.channels := by
    unfold carryLevel
    (repeat' split) <;> rfl
  unfold finishRecord
  split
  · split
    · dsimp only
      split
      · exact hcarry _ _ _ t
      · exact hcarry _ _ _ t
    · rfl
  all_goals first | rfl | (split <;> rfl)

/-- A record's request that names one field applies that field. -/
theorem applyFields_single {t : Table} {k : RecKey} {f : Field} (v : Value) {l : List Field} (hf : f ∈ l) (hnd : l.Nodup) :
    applyFields [(f, v)] k l t = ((applyField [(f, v)] t ⟨k, f⟩ v).1, [(f, (applyField [(f, v)] t ⟨k, f⟩ v).2)]) := by
  have hother {g : Field} (hg : g ≠ f) : Items.value [(f, v)] g = none := by simp [Items.value, hg.symm]
  have hrest {l : List Field} (hl : f ∉ l) (u : Table) : applyFields [(f, v)] k l u = (u, []) := by
    induction l with
    | nil => rfl
    | cons g gs ih =>
      rw [List.mem_cons, not_or] at hl
      rw [applyFields, hother (Ne.symm hl.1)]
      exact ih hl.2
  induction l with
  | nil => simp at hf
  | cons g gs ih =>
    obtain ⟨hg, hgs⟩ := List.nodup_cons.mp hnd
    by_cases hgf : g = f
    · subst hgf
      have hvalue : Items.value [(g, v)] g = some v := by simp [Items.value]
      rw [applyFields, hvalue]
      simp only [hrest hg]
    · rw [applyFields, hother hgf]
      exact ih (List.mem_of_ne_of_mem (Ne.symm hgf) hf) hgs

/-- Setting a channel's offset alone clamps it to 20 divisions and changes no other setting of the channels (R25). -/
theorem applyRecord_offset {t : Table} {n : Nat} {c : Channel} (hn : 1 ≤ n) (hc : t.channels[n - 1]? = some c) (v : Int) :
    (applyRecord t ⟨.channel, n⟩ [(.chOffset, .num v)]).1.channels =
      t.channels.set (n - 1) { c with offset := clampTo (-20 * c.scale) (20 * c.scale) v } := by
  have hc' := nth1_of_getElem? hn hc
  have hgovern (old c : Channel) : governChannel (Items.named [(.chOffset, .num v)]) old c .chOffset = c := rfl
  have hset (u : Channel) : modify1 (t.channels.set (n - 1) u) n (fun c => c) = t.channels.set (n - 1) u := by
    rw [modify1, if_neg (by omega)]
    exact List.modify_id (n - 1) _
  rw [applyRecord, finishRecord_channels, applyFields_single _ (show Field.chOffset ∈ Cls.channel.fields by decide) (by decide)]
  simp only [applyField, bring, hc', Table.put, modify1_of_getElem? hn hc, govern, hgovern, hset, clampOffset]
  rfl

theorem panelWrite_offset {t : Table} {n : Nat} {c : Channel} (hn : 1 ≤ n) (hc : t.channels[n - 1]? = some c) (v : Int) :
    panelWrite t ⟨⟨.channel, n⟩, .chOffset⟩ (some (.num v)) = applyRecord t ⟨.channel, n⟩ [(.chOffset, .num v)] := by
  have hhas : t.has ⟨.channel, n⟩ = true := by simp [Table.has, nth1_of_getElem? hn hc]
  have hok : badValuePos t ⟨.channel, n⟩ [(.chOffset, some (.num v))] = none := by
    simp [badValuePos, firstPos, valueOk, valueOfSort, repeatedPos, bindingLegal, Field.sort]
  simp [panelWrite, hhas, hok]

/-- An event whose draft changes one channel's offset leaves the channels as the draft has them. -/
theorem eventTable_offset (o : Owner) {t : Table} {d : Draft} {n : Nat} {c : Channel} {v : Int} (hn : 1 ≤ n) (hn4 : n ≤ 4)
    (hc : t.channels[n - 1]? = some c) (hd : d.table.channels = t.channels.set (n - 1) { c with offset := v }) (hcreated : d.created = []) :
    (eventTable o d t).channels = d.table.channels := by
  by_cases hnothing : alteredRefs t (d.planned t) = [] ∧ d.created = [] ∧ d.retired = []
  · obtain ⟨ha, hcr, hre⟩ := hnothing
    have hlen : n - 1 < t.channels.length := (List.getElem?_eq_some_iff.mp hc).1
    have hnew : nth1 d.table.channels n = some { c with offset := v } := nth1_of_getElem? hn (by rw [hd, List.getElem?_set_self hlen])
    have hsame : v = c.offset := by
      by_contra hne
      have hmem := d.mem_alteredRefs_planned (t := t) (r := ⟨⟨.channel, n⟩, .chOffset⟩)
        (Table.mem_refs.2 ⟨by simp [Table.has, hnew], by simp [Cls.instances]; omega, show Field.chOffset ∈ Cls.channel.fields by decide⟩) rfl
        (show Field.chOffset.kind ≠ .derived by decide) (by simp [hcreated])
        (by simp [Table.get, Field.cls, Channel.get, hnew, nth1_of_getElem? hn hc, Ne.symm hne])
      rw [ha] at hmem
      cases hmem
    rw [eventTable_of_nothing o d t ha hcr hre, hd, hsame]
    obtain ⟨hlt, rfl⟩ := List.getElem?_eq_some_iff.mp hc
    exact (List.set_getElem_self hlt).symm
  · obtain ⟨-, -, -, hchannels⟩ := eventTable_acquire o d t hnothing
    rw [hchannels]
    unfold Draft.planned
    split <;> rfl

theorem Table.channels_of_settings {t u : Table} (h : t.settings = u.settings) : t.channels = u.channels := by
  have hchannels := congrArg Table.channels h
  exact hchannels

/-- Settles O39. -/
theorem detentMovesTheOffset : Obligations.DetentMovesTheOffset := by
  intro s n c knob dir mult rest hr hn hn4 hc hguard hq
  have hc' := nth1_of_getElem? hn hc
  have hhas : s.table.has ⟨.channel, n⟩ = true := by simp [Table.has, hc']
  have hadm : admitted s.table ⟨⟨.channel, n⟩, .chOffset⟩ = true := by simp [admitted, Table.guardOf, hc', hguard]
  have hwrite := panelWrite_offset hn hc (c.detentOffset (dir == .cw) mult)
  have hchannels := applyRecord_offset hn hc (c.detentOffset (dir == .cw) mult)
  have htake := State.takeAction_detent (s := s.begin.withActions ([] ++ rest)) (t := s.table) rfl
    (r := ⟨⟨.channel, n⟩, .chOffset⟩) hhas knob dir mult
  rw [if_pos hadm, stepValue_offset hc'] at htake
  obtain ⟨t, hexec, hinbox, hsettings, -⟩ := exec_takes_event (c := .detent knob) rfl rfl hr hq rfl (by simp [PanelAction.isDetent]) htake
  refine ⟨t, hexec, hinbox, ?_⟩
  rw [Table.channels_of_settings hsettings, eventTable_offset .panel hn hn4 hc ((congrArg (·.1.channels) hwrite).trans hchannels) rfl]
  refine ((congrArg (·.1.channels) hwrite).trans hchannels).trans ?_
  cases dir <;> rfl

/-! ## Refused actions (R15, R16, R63) -/

theorem State.errorBlink_blinked (c : Control) (s : State) : s.blinked c (s.errorBlink c) := by
  intro l hl
  simp only [State.errorBlink, List.getElem?_modify, hl, if_true]
  cases hstate : l.state <;> simp [Lamp.errorBlink, hstate]

/-- An intent is of the control, the kind and the field of an action. -/
def Intent.isOf (c : Control) (kind : ActionKind) (f : Field) (i : Intent) : Prop := i.control = c ∧ i.kind = kind ∧ i.field = f

/-- What a refused action leaves on its record (R16): the action's intent, the held one kept or added to where it is of the same action. -/
theorem intentAfter_spec (held : Option Intent) (c : Control) (kind : ActionKind) (f : Field) (up : Bool) (arg : Option Value) :
    (intentAfter held c kind f up arg).isOf c kind f
      ∧ (kind ≠ .detent → ∀ j, held = some j → j.isOf c kind f → intentAfter held c kind f up arg = j)
      ∧ ((∀ j, held = some j → ¬ j.isOf c kind f) → (intentAfter held c kind f up arg).arg = arg)
      ∧ (kind = .detent →
          (∀ j, held = some j → j.isOf c kind f →
            (intentAfter held c kind f up arg).total = clampTo (-127) 127 (j.total + if up then 1 else -1))
          ∧ ((∀ j, held = some j → ¬ j.isOf c kind f) → (intentAfter held c kind f up arg).total = if up then 1 else -1)) := by
  have hfresh (h : ∀ j, held = some j → ¬ j.isOf c kind f) : intentAfter held c kind f up arg =
      { control := c, kind := kind, field := f, total := if kind = .detent then (if up then 1 else -1) else 0, arg := arg } := by
    cases held with
    | none => rfl
    | some j => exact if_neg (h j rfl)
  have hheld (j : Intent) (hj : held = some j) (h : j.isOf c kind f) : intentAfter held c kind f up arg =
      if kind = .detent then { j with total := clampTo (-127) 127 (j.total + if up then 1 else -1) } else j := by
    rw [hj]
    exact if_pos h
  refine ⟨?_, fun hkind j hj h => by rw [hheld j hj h, if_neg hkind], fun h => by rw [hfresh h],
    fun hkind => ⟨fun j hj h => by rw [hheld j hj h, if_pos hkind], fun h => by rw [hfresh h, if_pos hkind]⟩⟩
  by_cases h : ∀ j, held = some j → ¬ j.isOf c kind f
  · rw [hfresh h]
    exact ⟨rfl, rfl, rfl⟩
  · push Not at h
    obtain ⟨j, hj, hsame⟩ := h
    rw [hheld j hj hsame]
    split <;> exact hsame

theorem State.refuse_up {kind : ActionKind} (h : kind ≠ .detent) (c : Control) (r : Ref) (up up' : Bool) (arg : Option Value) (s : State) :
    s.refuse c kind r up arg = s.refuse c kind r up' arg := by
  simp [State.refuse, intentAfter, h]

/-- A row whose action the table refuses sets its intent and starts its blink, and changes nothing else. -/
theorem exec_takes_refused {c : Instr} {p : PanelAction → Bool} {pre rest : List PanelAction} {a : PanelAction} {s : State}
    {ctl : Control} {kind : ActionKind} {q : Ref} {up : Bool} {arg : Option Value}
    (hc : commandEffect c = State.takeWaiting p) (hw : c.wellFormed = true) (hr : s.inReset = false)
    (hq : s.inbox.actions = pre ++ a :: rest) (hpre : pre.all (fun x => !p x) = true) (ha : p a = true)
    (htake : (s.begin.withActions (pre ++ rest)).takeAction a = (s.begin.withActions (pre ++ rest)).refuse ctl kind q up arg) :
    ∃ t, exec c s = .next t ∧ s.sameBut [.table, .inbox, .lamps] t ∧ t.inbox = { s.inbox with actions := pre ++ rest }
      ∧ t.table = { s.table with
          intents := setKey q.key (intentAfter (findKey q.key s.table.intents) ctl kind q.field up arg) s.table.intents }
      ∧ s.blinked ctl t := by
  refine ⟨_, exec_takes hc hw hr hq hpre ha, ?_, ?_, ?_, ?_⟩
  · simp [htake, State.refuse, State.sameBut]
  · simp [htake, State.refuse]
  · simp [htake, State.refuse]
  · rw [htake]
    exact State.errorBlink_blinked ctl { (s.begin.withActions (pre ++ rest)) with table := _ }

/-- The argument a refused press leaves in a new intent (R16; log 45). -/
theorem refusedArg_eq {t : Table} {key : Fin 40} {act : KeyAction} {r : Ref} {held arg : Option Value}
    (h : (∃ b, act = .setValue ∧ t.keybinds[key.val]? = some b ∧ b.action = .setValue ∧ b.target = some r ∧ arg = b.argument)
      ∨ ((∀ b, act = .setValue → t.keybinds[key.val]? = some b → b.action = .setValue → b.target ≠ some r) ∧ arg = held)) :
    refusedArg t key act r held = arg := by
  rcases h with ⟨b, rfl, hb, haction, htarget, rfl⟩ | ⟨hother, rfl⟩
  · simp [refusedArg, hb, haction, htarget]
  · unfold refusedArg
    split
    · next b hb => exact if_neg fun ⟨haction, htarget⟩ => hother b rfl hb haction htarget
    · rfl

/-- Settles O40. -/
theorem refusedPanelActionsBecomeIntents : Obligations.RefusedPanelActionsBecomeIntents := by
  refine ⟨?_, ?_⟩
  · intro s r q pre rest c a ctl kind up arg hr hhas hadm hq hcase
    have hadm' : ¬ admitted s.table r = true := by simp [hadm]
    generalize hu : s.begin.withActions (pre ++ rest) = u
    have htable : u.table = s.table := by rw [← hu]; rfl
    obtain ⟨p, hc, hw, hpre, ha, htake⟩ : ∃ p : PanelAction → Bool, commandEffect c = State.takeWaiting p ∧ c.wellFormed = true
        ∧ pre.all (fun x => !p x) = true ∧ p a = true ∧ u.takeAction a = u.refuse ctl kind q up arg := by
      rcases hcase with ⟨key, act, held, rfl, rfl, rfl, rfl, rfl, hpre, harg⟩ | ⟨knob, dir, mult, rfl, rfl, rfl, rfl, rfl, rfl, hpre, hother, hfocus⟩
        | ⟨knob, rfl, rfl, rfl, rfl, rfl, rfl, hpre⟩
      · refine ⟨_, rfl, rfl, hpre, by simp [PanelAction.isPress], ?_⟩
        rw [State.takeAction_press htable hhas, if_neg hadm', refusedArg_eq harg]
        exact State.refuse_up (by simp) _ _ _ _ _ _
      · refine ⟨_, rfl, rfl, hpre, by simp [PanelAction.isDetent], ?_⟩
        have href : refusedRef u.table knob r = some q := by
          unfold refusedRef
          by_cases hk : knob = 11
          · rw [if_pos (by simp [hk]), htable, hfocus hk]
          · rw [if_neg (show ¬ knob.val = 11 from fun h => hk (Fin.ext h)), hother hk]
        rw [State.takeAction_detent htable hhas, if_neg hadm', State.refuseDetent, href]
      · refine ⟨_, rfl, rfl, hpre, by simp [PanelAction.isPush], ?_⟩
        rw [State.takeAction_push htable hhas, if_neg hadm']
        exact State.refuse_up (by decide) _ _ _ _ _ _
    subst hu
    obtain ⟨t, hexec, hsame, hinbox, hintents, hblinked⟩ := exec_takes_refused hc hw hr hq hpre ha htake
    obtain ⟨⟨hcontrol, hkind, hfield⟩, hkeeps, hfresh, htotal⟩ :=
      intentAfter_spec (findKey q.key s.table.intents) ctl kind q.field up arg
    exact ⟨t, _, hexec, hsame, hinbox, by rw [hintents], by rw [hintents, findKey_setKey_same],
      fun k hk => by rw [hintents]; exact findKey_setKey_other hk _ _, hcontrol, hkind, hfield, hkeeps, hfresh, htotal, hblinked⟩
  · intro s r pre rest dir mult hr hhas hadm hfocus hq hpre
    have hadm' : ¬ admitted s.table r = true := by simp [hadm]
    have htake : (s.begin.withActions (pre ++ rest)).takeAction (.detent 11 r dir mult) = s.begin.withActions (pre ++ rest) := by
      rw [State.takeAction_detent (s := s.begin.withActions (pre ++ rest)) (t := s.table) rfl hhas, if_neg hadm']
      simp [State.refuseDetent, refusedRef, hfocus]
    refine ⟨_, exec_takes (c := .detent 11) rfl rfl hr hq hpre (by simp [PanelAction.isDetent]), ?_, ?_⟩
    · simp [htake, State.sameBut]
    · simp [htake]

end Sys2Proof.Machine

/-! Admitted panel actions, FORCE and DEFAULTS among them (R43, R51, R63, R87), and the repeats of held step keys (R52). -/

namespace Sys2Proof.Machine

/-! ## Events start no error blink (R61, R63) -/

theorem State.noBlinkStarted_of_lamps {s t : State} (h : t.lamps = s.lamps) : s.noBlinkStarted t := by
  intro j l' n hl _
  rw [h] at hl
  exact ⟨l', hl, rfl, rfl, rfl⟩

theorem State.noBlinkStarted.trans {s u t : State} (h : s.noBlinkStarted u) (h' : u.noBlinkStarted t) : s.noBlinkStarted t := by
  intro j l' n hl hn
  obtain ⟨m, hm, hstate, hlit, hphase⟩ := h' j l' n hl hn
  obtain ⟨l, hl0, hstate0, hlit0, hphase0⟩ := h j m n hm (hstate.trans hn)
  exact ⟨l, hl0, hstate0.trans hstate, hlit0.trans hlit, hphase0.trans hphase⟩

/-- A lamp that runs an error blink after an evaluation ran it before, in the same phase. -/
def Lamp.blinksOn (l l' : Lamp) : Prop :=
  ∀ n, l'.state = .blinking (.cycles n) → l.state = l'.state ∧ l.lit = l'.lit ∧ l.phaseEnd = l'.phaseEnd

theorem Lamp.blinksOn_refl (l : Lamp) : l.blinksOn l := fun _ _ => ⟨rfl, rfl, rfl⟩

theorem Lamp.record_blinksOn (l : Lamp) (b : BoundState) : l.blinksOn (l.record b) := by
  intro n
  obtain ⟨st, bound, opens, lit, phaseEnd⟩ := l
  rcases st with _ | _ | (_ | n) | _ <;> cases b <;> simp [Lamp.record, BoundState.state]

theorem Lamp.rebind_blinksOn (l : Lamp) (b : BoundState) : l.blinksOn (l.rebind b) := by
  by_cases h : l.state = .failed
  · intro n hn
    rw [Lamp.rebind_of_failed h] at hn
    cases b <;> cases hn
  · rw [Lamp.rebind_of_not_failed h]
    exact l.record_blinksOn b

theorem State.noBlinkStarted_of_mapIdx {s t : State} {f : Nat → Lamp → Lamp} (ht : t.lamps.entries = s.lamps.entries.mapIdx f)
    (hf : ∀ (i : Nat) (l : Lamp), l.blinksOn (f i l)) : s.noBlinkStarted t := by
  intro j l' n hl hn
  rw [ht, List.getElem?_mapIdx, Option.map_eq_some_iff] at hl
  obtain ⟨l, hl, rfl⟩ := hl
  exact ⟨l, hl, hf j l n hn⟩

theorem State.notifyLamps_noBlink (p : Ref → Bool) (s : State) : s.noBlinkStarted (s.notifyLamps p) := by
  refine State.noBlinkStarted_of_mapIdx rfl fun i l => ?_
  (repeat' split) <;> first | exact l.blinksOn_refl | exact l.record_blinksOn _

theorem State.rebindLamps_noBlink (altered : List Ref) (s : State) : s.noBlinkStarted (s.rebindLamps altered) := by
  refine State.noBlinkStarted_of_mapIdx rfl fun i l => ?_
  (repeat' split) <;> first | exact l.blinksOn_refl | exact l.rebind_blinksOn _

theorem State.statusUpdate_noBlink (r : Ref) (w : Table → Table) (s : State) : s.noBlinkStarted (s.statusUpdate r w) := by
  unfold State.statusUpdate
  dsimp only
  split
  · exact State.noBlinkStarted_of_lamps rfl
  · exact State.notifyLamps_noBlink (· == r) { s with table := w s.table }

theorem State.arm_noBlink (s : State) : s.noBlinkStarted s.arm := by
  unfold State.arm
  split
  · exact State.statusUpdate_noBlink _ _ s
  · dsimp only
    refine State.noBlinkStarted.trans ?_ (State.statusUpdate_noBlink _ _ _)
    exact State.statusUpdate_noBlink _ _ (s.onRun _)

theorem State.handover_noBlink (s : State) : s.noBlinkStarted s.handover := by
  have habandon : s.noBlinkStarted s.cleared.abandon := State.noBlinkStarted_of_lamps (by simp [State.cleared])
  rcases s.handover_state with h | h | h | h | h <;> rw [h]
  · exact State.noBlinkStarted_of_lamps rfl
  · exact State.statusUpdate_noBlink _ _ s.cleared
  · exact s.cleared.arm_noBlink
  · exact habandon.trans (State.statusUpdate_noBlink _ _ _)
  · exact habandon.trans s.cleared.abandon.arm_noBlink

theorem State.handOver_noBlink (before : TrigMode) (altered : List Ref) (s : State) : s.noBlinkStarted (s.handOver before altered) := by
  unfold State.handOver
  split
  · refine State.noBlinkStarted.trans ?_ (State.noBlinkStarted_of_lamps (State.pump_frame _).2.2.2.1)
    exact State.handover_noBlink { s with planner := plannerOf s.table }
  · split
    · exact State.noBlinkStarted_of_lamps (by simp)
    · exact State.noBlinkStarted_of_lamps rfl

theorem State.commit_noBlink (o : Owner) (d : Draft) (s : State) : s.noBlinkStarted (s.commit o d) := by
  unfold State.commit
  dsimp only
  split
  · exact State.noBlinkStarted_of_lamps rfl
  · unfold State.notify
    dsimp only
    generalize dropIntents o _ _ = v
    generalize alteredRefs s.table (d.planned s.table) = altered
    generalize d.planned s.table = p
    refine State.noBlinkStarted.trans ?_ (State.handOver_noBlink _ _ _)
    refine State.noBlinkStarted.trans (State.notifyLamps_noBlink (p.touches altered) { s with table := v }) ?_
    refine State.noBlinkStarted.trans (State.rebindLamps_noBlink altered _) (State.noBlinkStarted_of_lamps ?_)
    split
    · rfl
    · rfl

theorem State.beginOp_noBlink (st : StoreState) (o : OpInHand) (phase : Option Phase) (s : State) :
    s.noBlinkStarted (s.beginOp st o phase) := by
  unfold State.beginOp
  refine State.noBlinkStarted.trans ?_ (State.noBlinkStarted_of_lamps (State.startFlash_frame _).2.2.2.1)
  exact State.statusUpdate_noBlink _ _ (s.onEngine _)

theorem State.takeDefaults_noBlink (s : State) : s.noBlinkStarted s.takeDefaults.1 := by
  rcases s.takeDefaults_state with h | h | h <;> rw [h]
  · exact State.noBlinkStarted_of_lamps rfl
  · exact State.commit_noBlink _ _ s
  · exact State.beginOp_noBlink _ _ _ s

/-! ## FORCE and DEFAULTS from a key (R43, R51, R87) -/

/-- An admitted FORCE of a key. -/
theorem State.doPress_force (s : State) (key : Fin 40) (r : Ref) (arg : Option Value) :
    s.doPress key .force r arg = if s.forceTrigger.2 = .notArmed then s.forceTrigger.1.pump.errorBlink (.key key) else s.forceTrigger.1.pump :=
  rfl

theorem State.doPress_defaults (s : State) (key : Fin 40) (r : Ref) (arg : Option Value) :
    s.doPress key .defaults r arg = if s.takeDefaults.2 = .busy then s.takeDefaults.1.errorBlink (.key key) else s.takeDefaults.1 :=
  rfl

/-- What a key's FORCE leaves: R87's outcome, and the blink of a NOT_ARMED answer. -/
theorem State.doPress_force_spec {s : State} (hout : s.out.capture = []) (key : Fin 40) (r : Ref) (arg : Option Value) :
    (s.doPress key .force r arg).inbox = s.inbox ∧ (s.doPress key .force r arg).table = s.table
      ∧ State.forced s.forceTrigger.2 s (s.doPress key .force r arg)
      ∧ (s.forceTrigger.2 = .notArmed → s.blinked (.key key) (s.doPress key .force r arg))
      ∧ (s.forceTrigger.2 ≠ .notArmed → (s.doPress key .force r arg).lamps = s.lamps) := by
  have hforced := State.forceTrigger_forced hout
  rw [State.doPress_force]
  split
  · next h =>
    refine ⟨by simp, by simp, hforced.congr rfl rfl rfl rfl rfl rfl rfl rfl, fun _ => ?_, fun hne => absurd h hne⟩
    have hblinked := s.forceTrigger.1.pump.errorBlink_blinked (.key key)
    have hlamps : s.forceTrigger.1.pump.lamps = s.lamps := by simp
    rw [State.blinked, hlamps] at hblinked
    exact hblinked
  · next h => exact ⟨by simp, by simp, hforced, fun heq => absurd heq h, fun _ => by simp⟩

/-- DEFAULTS that alters nothing does nothing (R43). -/
theorem State.takeDefaults_eq_noEffect {s : State} (h : s.takeDefaults.2 = .doneNoEffect) : s.takeDefaults.1 = s := by
  have hnow : s.defaultsNow.2 = .doneNoEffect → s.defaultsNow.1 = s := by
    intro heq
    obtain ⟨hnothing, hsomething, -⟩ := s.defaultsNow_effect
    by_cases hn : alteredRefs s.table (factoryDraft s.table) = [] ∧ s.table.dynamicKeys = []
    · rw [hnothing hn]
    · rw [hsomething hn] at heq
      cases heq
  unfold State.takeDefaults at h ⊢
  generalize s.defaultsNow = now at *
  generalize s.beginOp .recalling { op := .defaults, slot := 31, mask := .all } (some .read) = begun at *
  cases hstate : s.table.system.storeState <;> cases hvalid : s.engine.slotValid 31 <;> simp_all

/-- What a key's DEFAULTS leaves: R43's outcome, and the blink of a BUSY answer. -/
theorem State.doPress_defaults_spec (s : State) (key : Fin 40) (r : Ref) (arg : Option Value) :
    (s.doPress key .defaults r arg).inbox = s.inbox ∧ State.defaulted s.takeDefaults.2 s.table s (s.doPress key .defaults r arg)
      ∧ (s.takeDefaults.2 = .busy → s.doPress key .defaults r arg = s.errorBlink (.key key))
      ∧ (s.takeDefaults.2 ≠ .busy → s.noBlinkStarted (s.doPress key .defaults r arg))
      ∧ (s.takeDefaults.2 = .doneNoEffect → s.doPress key .defaults r arg = s) := by
  have hdefaulted := s.takeDefaults_defaulted
  rw [State.doPress_defaults]
  split
  · next h =>
    have hsame := State.takeDefaults_eq_busy h
    refine ⟨by simp, hdefaulted.congr rfl rfl rfl (fun _ => rfl) fun _ => ?_, fun _ => by rw [hsame], fun hne => absurd h hne,
      fun heq => by rw [h] at heq; cases heq⟩
    rw [hsame]
    rfl
  · next h => exact ⟨by simp, hdefaulted, fun heq => absurd heq h, fun _ => s.takeDefaults_noBlink, State.takeDefaults_eq_noEffect⟩

/-- Settles O38. -/
theorem admittedPanelActionsAreEvents : Obligations.AdmittedPanelActionsAreEvents := by
  intro s r pre rest hr hhas hadm
  generalize hu : s.begin.withActions (pre ++ rest) = u
  have htable : u.table = s.table := by rw [← hu]; rfl
  refine ⟨fun key act arg hforce hdefaults hq hpre => ?_, fun key arg hq hpre => ?_, fun key arg hq hpre => ?_,
    fun knob dir mult hq hpre => ?_, fun knob hq hpre => ?_⟩
  · have htake := State.takeAction_press htable hhas key act arg
    rw [if_pos hadm, State.doPress_event hforce hdefaults htable, ← hu] at htake
    exact exec_takes_event (c := .pressAction key) rfl rfl hr hq hpre (by simp [PanelAction.isPress]) htake
  · have htake := State.takeAction_press htable hhas key .force arg
    rw [if_pos hadm] at htake
    have hexec := exec_takes (c := .pressAction key) rfl rfl hr hq hpre (by simp [PanelAction.isPress])
    rw [hu, htake] at hexec
    have hout : u.out.capture = [] := by rw [← hu]; rfl
    obtain ⟨hinbox, hsame, hforced, hblinked, hlamps⟩ := State.doPress_force_spec hout key r arg
    generalize u.doPress key .force r arg = v at *
    subst hu
    exact ⟨_, _, hexec, hinbox, hsame.trans htable, hforced.congr rfl rfl rfl rfl rfl rfl rfl rfl, hblinked, hlamps⟩
  · have htake := State.takeAction_press htable hhas key .defaults arg
    rw [if_pos hadm] at htake
    have hexec := exec_takes (c := .pressAction key) rfl rfl hr hq hpre (by simp [PanelAction.isPress])
    rw [hu, htake] at hexec
    obtain ⟨hinbox, hdefaulted, hbusy, hquiet, hnothing⟩ := u.doPress_defaults_spec key r arg
    generalize u.doPress key .defaults r arg = v at *
    generalize u.takeDefaults.2 = code at *
    subst hu
    refine ⟨_, code, hexec, hinbox, ?_, fun h => ?_, hquiet, fun h => ?_⟩
    · refine State.defaulted.congr (s := s.begin.withActions (pre ++ rest)) (t := v) hdefaulted rfl rfl rfl (fun _ => rfl) fun h => ?_
      rw [State.settle_table, hbusy h]
      rfl
    · rw [hbusy h]
      exact ⟨by simp [State.sameBut], State.errorBlink_blinked (.key key) (s.begin.withActions (pre ++ rest))⟩
    · rw [hnothing h]
      simp [State.sameBut]
  · have htake := State.takeAction_detent htable hhas knob dir mult
    rw [if_pos hadm, ← hu] at htake
    exact exec_takes_event (c := .detent knob) rfl rfl hr hq hpre (by simp [PanelAction.isDetent]) htake
  · have htake := State.takeAction_push htable hhas knob
    rw [if_pos hadm, ← hu] at htake
    exact exec_takes_event (c := .push knob) rfl rfl hr hq hpre (by simp [PanelAction.isPush]) htake

/-! ## A step alters no key binding (R55) -/

theorem Table.put_keybinds {t : Table} {r : Ref} {v : Value} (h : r.key.cls ≠ .keybind) : (t.put r v).keybinds = t.keybinds := by
  unfold Table.put
  split <;> first | rfl | exact absurd (by assumption) h

theorem govern_keybinds {named : Field → Bool} {old t : Table} {r : Ref} (h : r.key.cls ≠ .keybind) :
    (govern named old t r).keybinds = t.keybinds := by
  unfold govern
  split <;> first | rfl | exact absurd (by assumption) h | (split <;> rfl)

theorem applyField_keybinds {items : Items} {t : Table} {r : Ref} {v : Value} (h : r.key.cls ≠ .keybind) :
    (applyField items t r v).1.keybinds = t.keybinds := by
  rw [applyField, govern_keybinds h, Table.put_keybinds h]

theorem finishRecord_keybinds (old t : Table) (k : RecKey) : (finishRecord old t k).keybinds = t.keybinds := by
  have hcarry (n : ChannelName) (a b : Channel) (u : Table) : (carryLevel n a b u).keybinds = u.keybinds := by
    unfold carryLevel
    (repeat' split) <;> rfl
  unfold finishRecord
  split
  · split
    · dsimp only
      split
      · exact hcarry _ _ _ t
      · exact hcarry _ _ _ t
    · rfl
  all_goals first | rfl | (split <;> rfl)

theorem applyRecord_keybinds {t : Table} {k : RecKey} {items : Items} (h : k.cls ≠ .keybind) :
    (applyRecord t k items).1.keybinds = t.keybinds := by
  have hfields (l : List Field) (u : Table) : (applyFields items k l u).1.keybinds = u.keybinds := by
    induction l generalizing u with
    | nil => rfl
    | cons f l ih =>
      unfold applyFields
      split
      · exact ih u
      · exact (ih _).trans (applyField_keybinds h)
  rw [applyRecord, finishRecord_keybinds, hfields]

/-- A field that a detent moves is of no key binding. -/
theorem stepValue_cls {t : Table} {r : Ref} {up : Bool} {mult : Nat} {v : Value} (h : stepValue t r up mult = some v) :
    r.key.cls ≠ .keybind := by
  intro hcls
  have hget : r.field.cls = r.key.cls := by
    by_contra hne
    have : t.get r = none := if_pos hne
    simp [stepValue, this] at h
  have hrule : stepRule t r = none := by
    rw [hcls] at hget
    unfold stepRule
    split <;> first | rfl | simp_all [Field.cls]
  simp [stepValue, hrule] at h

theorem panelWrite_step_keybinds (t : Table) (r : Ref) (up : Bool) (mult : Nat) :
    (panelWrite t r (stepValue t r up mult)).1.keybinds = t.keybinds := by
  unfold panelWrite
  split
  · rfl
  · next v hv =>
    split
    · exact applyRecord_keybinds (stepValue_cls hv)
    · rfl

theorem alteredRefs_keybinds {t : Table} {d : Draft} (h : d.table.keybinds = t.keybinds) {r : Ref}
    (hr : r ∈ alteredRefs t (d.planned t)) : r.key.cls ≠ .keybind := by
  obtain ⟨-, -, -, hne⟩ := mem_alteredRefs.1 hr
  have hplanned : (d.planned t).table.keybinds = t.keybinds := by
    unfold Draft.planned
    split <;> exact h
  intro hcls
  refine hne ?_
  unfold Table.get
  rw [hcls, hplanned]

/-- An event that alters no binding of a key leaves the auto-repeats running (R52). -/
theorem State.commit_scanner (o : Owner) {d : Draft} {s : State} (h : d.table.keybinds = s.table.keybinds) :
    (s.commit o d).scanner = s.scanner := by
  have hstop (u : State) : (u.stopRepeats (alteredRefs s.table (d.planned s.table))).scanner = u.scanner := by
    have hnone (i : Nat) : (alteredRefs s.table (d.planned s.table)).any (fun r => r.key == ⟨.keybind, i⟩) = false := by
      rw [List.any_eq_false]
      intro r hr hkey
      exact alteredRefs_keybinds h hr (congrArg RecKey.cls (eq_of_beq hkey))
    have hkeys : (u.scanner.keys.mapIdx fun _ e => e) = u.scanner.keys := by
      refine List.ext_getElem? fun i => ?_
      simp
    simp only [State.stopRepeats, hnone, Bool.false_eq_true, if_false, hkeys]
  unfold State.commit
  dsimp only
  split
  · rfl
  · simp only [State.notify]
    have hset (c : Prop) [Decidable c] (u : State) : (if c then u.recompose else u).scanner = u.scanner := by split <;> rfl
    simp [hset, hstop]

/-! ## The repeat target (R52) -/

/-- A repeat target that has come, by the hold, the binding's target and its level. -/
theorem State.repeatPress_cases (s : State) (key : Fin 40) (b : Keybind) :
    (s.scanner.ghost = true ∨ (targetAbsent s.table b = false ∧ stepsLineLevel s.table b = true) →
        s.repeatPress key b = s.setRepeat key (some (after s.clock.now 100000)))
      ∧ (s.scanner.ghost = false → targetAbsent s.table b = true → s.repeatPress key b = s.setRepeat key none)
      ∧ (∀ a, s.scanner.ghost = false → targetAbsent s.table b = false → pressAction s.table key b = some a →
          s.repeatPress key b = ((s.setRepeat key (some (after s.clock.now 100000))).withActions (s.inbox.actions ++ [a])).takeWaiting
            (PanelAction.isPress key)) := by
  unfold State.repeatPress
  dsimp only
  refine ⟨?_, fun hghost habsent => by simp [hghost, habsent], fun a hghost habsent ha => ?_⟩
  · rintro (hghost | ⟨habsent, hline⟩)
    · simp [hghost]
    · have hnone : pressAction s.table key b = none := by simp [pressAction, hline]
      cases hghost : s.scanner.ghost <;> simp [habsent, hnone]
  · simp only [hghost, habsent, ha, Bool.false_eq_true, if_false]
    rfl

/-- The press action of a step key. -/
theorem pressAction_step {t : Table} {key : Fin 40} {b : Keybind} {r : Ref} {up : Bool} (habsent : targetAbsent t b = false)
    (hline : stepsLineLevel t b = false) (hr : b.target = some r) (hb : b.action = if up then .stepUp else .stepDown) :
    pressAction t key b = some (.press key b.action r none) := by
  cases up <;> simp_all [pressAction, pressTarget]

theorem State.doPress_step {s : State} {t : Table} (ht : s.table = t) (key : Fin 40) (r : Ref) (up : Bool) :
    s.doPress key (if up then .stepUp else .stepDown) r none = s.panelEvent (panelWrite t r (stepValue t r up 1)) := by
  subst ht
  cases up <;> rfl

theorem State.setRepeat_entry {s : State} {key : Fin 40} {e : KeyEntry} (he : s.scanner.keys[key.val]? = some e) (at? : Option Time) :
    (s.setRepeat key at?).scanner.keys[key.val]? = some { e with repeatAt := at? } := by
  simp [State.setRepeat, he]

theorem State.refuse_blinked (s : State) (c : Control) (kind : ActionKind) (r : Ref) (up : Bool) (arg : Option Value) :
    s.blinked c (s.refuse c kind r up arg) :=
  State.errorBlink_blinked c { s with table := _ }

/-- Settles O41. -/
theorem repeatTargetStepsAgain : Obligations.RepeatTargetStepsAgain := by
  intro s key e b due hr he hdue hpressed hb
  have hexpiry : s.begin.repeatExpiry key = (s.begin.arrive due).repeatPress key b := by
    simp [State.repeatExpiry, he, hb, hdue, hpressed]
  have hexec : exec (.repeatTargetExpiry key) s = .next ((s.begin.arrive due).repeatPress key b).settle := by
    rw [← hexpiry]
    exact exec_of_running hr rfl
  generalize hu : s.begin.arrive due = u at hexec
  have htable : u.table = s.table := by simp [← hu]
  have hscanner : u.scanner = s.scanner := by simp [← hu]
  have hsame : s.sameBut [.clock] u.settle := by simp [← hu, State.sameBut]
  obtain ⟨hwait, hends, hsteps⟩ := u.repeatPress_cases key b
  rw [htable, hscanner] at hwait hends hsteps
  have hentry := State.setRepeat_entry (s := u) (hscanner ▸ he)
  refine ⟨_, hexec, fun h => ?_, fun hghost habsent => ?_, fun r up hghost habsent hline htarget haction hpre => ?_⟩
  · rw [hwait h]
    exact ⟨by simp [← hu, State.sameBut], hentry _⟩
  · rw [hends hghost habsent]
    exact ⟨by simp [← hu, State.sameBut], hentry _⟩
  · have hhas : s.table.has r.key = true := by simpa [targetAbsent, htarget] using habsent
    have hpress := hsteps _ hghost habsent (pressAction_step habsent hline htarget haction)
    rw [State.takeWaiting_of_first (pre := u.inbox.actions) (rest := []) rfl (by simpa [← hu] using hpre) (by simp [PanelAction.isPress])]
      at hpress
    obtain ⟨w, hw, hwtable, hwentry, hwinbox, hwlamps, hwclock, hwsame⟩ :
        ∃ w : State, u.repeatPress key b = w.takeAction (.press key b.action r none) ∧ w.table = s.table
          ∧ w.scanner.keys[key.val]? = some { e with repeatAt := some (after w.clock.now 100000) }
          ∧ w.inbox = s.inbox ∧ w.lamps = s.lamps ∧ w.clock = u.clock
          ∧ ∀ c kind q up arg, s.sameBut [.table, .scanner, .lamps, .clock] (w.refuse c kind q up arg).settle :=
      ⟨_, hpress, by simp [htable], hentry _, by simp [← hu], by simp [← hu], by simp,
        fun _ _ _ _ _ => by simp [← hu, State.sameBut, State.refuse]⟩
    rw [hw, State.takeAction_press hwtable hhas]
    clear hw hpress hsteps hends hwait hexec hentry hexpiry hsame
    by_cases hadm : admitted s.table r = true
    · rw [if_pos hadm, haction, State.doPress_step hwtable, State.panelEvent]
      have hkeys := State.commit_scanner .panel (s := w) (d := Draft.of (panelWrite s.table r (stepValue s.table r up 1)).1)
        ((panelWrite_step_keybinds _ _ _ _).trans (by rw [hwtable]))
      refine ⟨by simp [hwinbox], ?_, fun _ => ?_, fun h => absurd hadm (by simp [h])⟩
      · simp [hkeys, hwentry]
      · simp [State.commit_settings, hwtable]
    · rw [if_neg hadm]
      obtain ⟨⟨hcontrol, hkind, hfield⟩, -⟩ := intentAfter_spec (findKey r.key s.table.intents) (.key key) (.key b.action) r.field true
        (refusedArg s.table key b.action r none)
      refine ⟨by simp [State.refuse, hwinbox], by simp [State.refuse, hwentry], fun h => absurd h hadm,
        fun _ => ⟨hwsame _ _ _ _ _, ?_, ?_, _, ?_, hcontrol, hkind, hfield⟩⟩
      · simp [State.refuse, hwtable]
      · have hblinked := w.refuse_blinked (.key key) (.key b.action) r true (refusedArg s.table key b.action r none)
        intro l hl
        exact hblinked l (by rw [← hl, ← hwlamps])
      · simp [State.refuse, hwtable]

end Sys2Proof.Machine

/-! The Panel Scanner: a sample of the knobs (R53, R54, R56) and a scan of the keys and push switches (R44 to R48, R58). -/

namespace Sys2Proof.Machine

/-! ## One knob's sample -/

/-- The waiting detents of a knob. -/
def State.detents (k : Fin 12) (s : State) : List PanelAction := s.inbox.actions.filter fun p => p.isDetent k

/-- A sample of a knob hands on detents of that knob alone. -/
theorem sampleKnob_detents (t : Table) (now : Time) (k : Fin 12) (p : Bool × Bool) (e : KnobEntry) :
    ∀ a ∈ (sampleKnob t now k p e).2.1, ∃ r d m, a = .detent k r d m := by
  have hcomplete (d : Dir) (e : KnobEntry) : ∀ a ∈ (completeDetent t now k d e).2, ∃ r d m, a = .detent k r d m := by
    unfold completeDetent
    (repeat' split) <;> simp
  unfold sampleKnob
  dsimp only
  (repeat' split) <;> first | exact hcomplete _ _ | simp

theorem State.report_actions (c : FaultClass) (d : Option FaultDetail) (s : State) : (s.report c d).inbox.actions = s.inbox.actions := by
  unfold State.report
  dsimp only
  split <;> rfl

/-- What a knob's sample leaves in the scanner and the inbox. -/
def State.sampled (k : Fin 12) (r : KnobEntry × List PanelAction × Bool) (s : State) : State :=
  { s with
    scanner := { s.scanner with knobs := s.scanner.knobs.set k.val r.1 }
    inbox := { s.inbox with actions := s.inbox.actions ++ r.2.1 } }

theorem State.sampleOne_read {a b : BitVec 12} {k : Fin 12} {e : KnobEntry} {s : State} (he : s.scanner.knobs[k.val]? = some e)
    (hread : knobRead s.table k = true) {r : KnobEntry × List PanelAction × Bool}
    (hr : sampleKnob s.table s.clock.now k (a.getLsbD k.val, b.getLsbD k.val) e = r) :
    s.sampleOne a b k = if r.2.2 then (s.sampled k r).report .encoderGlitch (some (.knob k.val)) else s.sampled k r := by
  subst hr
  simp only [State.sampleOne, he, hread, Bool.not_true, Bool.false_eq_true, if_false]
  rfl

/-- What a knob's sample does, if it is read, does it to the state's scanner, inbox and faults alone. -/
theorem State.sampleOne_cases (a b : BitVec 12) (k : Fin 12) (s : State) :
    s.sampleOne a b k = s
      ∨ ∃ e, s.sampleOne a b k = s.sampled k (sampleKnob s.table s.clock.now k (a.getLsbD k.val, b.getLsbD k.val) e)
        ∨ s.sampleOne a b k = (s.sampled k (sampleKnob s.table s.clock.now k (a.getLsbD k.val, b.getLsbD k.val) e)).report
            .encoderGlitch (some (.knob k.val)) := by
  cases he : s.scanner.knobs[k.val]? with
  | none => exact .inl (by simp [State.sampleOne, he])
  | some e =>
    cases hread : knobRead s.table k with
    | false => exact .inl (by simp [State.sampleOne, he, hread])
    | true =>
      refine .inr ⟨e, ?_⟩
      rw [State.sampleOne_read he hread rfl]
      split
      · exact .inr rfl
      · exact .inl rfl

theorem State.sampleOne_other (a b : BitVec 12) {j k : Fin 12} (h : j ≠ k) (s : State) :
    (s.sampleOne a b j).scanner.knobs[k.val]? = s.scanner.knobs[k.val]? ∧ (s.sampleOne a b j).detents k = s.detents k := by
  have hval : j.val ≠ k.val := fun hv => h (Fin.ext hv)
  have hnone (p : Bool × Bool) (e : KnobEntry) :
      (sampleKnob s.table s.clock.now j p e).2.1.filter (fun x => x.isDetent k) = [] := by
    rw [List.filter_eq_nil_iff]
    intro x hx
    obtain ⟨r, d, m, rfl⟩ := sampleKnob_detents _ _ _ _ _ x hx
    simpa [PanelAction.isDetent] using h
  rcases s.sampleOne_cases a b j with hs | ⟨e, hs | hs⟩ <;> rw [hs]
  · exact ⟨rfl, rfl⟩
  · simp [State.sampled, State.detents, hval, hnone]
  · simp [State.sampled, State.detents, State.report_actions, hval, hnone]

theorem State.sampleOne_faults (a b : BitVec 12) (j : Fin 12) (c : FaultClass) (s : State) :
    (s.faults.lists c → (s.sampleOne a b j).faults.lists c) ∧ (s.faults.raised c → (s.sampleOne a b j).faults.raised c) := by
  rcases s.sampleOne_cases a b j with hs | ⟨e, hs | hs⟩ <;> rw [hs]
  · exact ⟨id, id⟩
  · exact ⟨id, id⟩
  · exact ⟨fun h => State.report_lists (s := s.sampled j _) h _ _, fun h => State.report_raised (s := s.sampled j _) h _ _⟩

theorem State.sampleOne_at {a b : BitVec 12} {k : Fin 12} {e : KnobEntry} {s : State} (he : s.scanner.knobs[k.val]? = some e)
    (hread : knobRead s.table k = true) {r : KnobEntry × List PanelAction × Bool}
    (hr : sampleKnob s.table s.clock.now k (a.getLsbD k.val, b.getLsbD k.val) e = r) :
    (s.sampleOne a b k).scanner.knobs[k.val]? = some r.1 ∧ (s.sampleOne a b k).detents k = s.detents k ++ r.2.1
      ∧ (r.2.2 = true → s.faults.lists .encoderGlitch → (s.sampleOne a b k).faults.raised .encoderGlitch) := by
  have hlen : k.val < s.scanner.knobs.length := (List.getElem?_eq_some_iff.mp he).1
  have hall : r.2.1.filter (fun x => x.isDetent k) = r.2.1 := by
    rw [List.filter_eq_self, ← hr]
    intro x hx
    obtain ⟨r, d, m, rfl⟩ := sampleKnob_detents _ _ _ _ _ x hx
    simp [PanelAction.isDetent]
  rw [State.sampleOne_read he hread hr]
  refine ⟨?_, ?_, fun hglitch hlists => ?_⟩
  · split <;> simp [State.sampled, hlen]
  · split <;> simp [State.sampled, State.detents, State.report_actions, hall]
  · rw [if_pos hglitch]
    exact State.report_raises hlists _

/-- Knob `k`'s sample has left `r`: its entry, what it hands on, and the report of a glitch. -/
def State.knobLeft (k : Fin 12) (s : State) (r : KnobEntry × List PanelAction × Bool) (t : State) : Prop :=
  t.scanner.knobs[k.val]? = some r.1 ∧ t.detents k = s.detents k ++ r.2.1
    ∧ (r.2.2 = true → s.faults.lists .encoderGlitch → t.faults.raised .encoderGlitch)

theorem State.sampleKnobs_knob {a b : BitVec 12} {k : Fin 12} {e : KnobEntry} {s : State} (he : s.scanner.knobs[k.val]? = some e)
    (hread : knobRead s.table k = true) :
    s.knobLeft k (sampleKnob s.table s.clock.now k (a.getLsbD k.val, b.getLsbD k.val) e) (s.sampleKnobs a b) := by
  unfold State.sampleKnobs
  refine foldl_visits (P := fun u : State => u.scanner.knobs[k.val]? = some e ∧ u.detents k = s.detents k ∧ u.table = s.table
      ∧ u.clock = s.clock ∧ (s.faults.lists .encoderGlitch → u.faults.lists .encoderGlitch))
    (List.mem_finRange k) (List.nodup_finRange 12) ?_ ?_ ?_ ⟨he, rfl, rfl, rfl, id⟩
  · rintro u j hj ⟨hentry, hdetents, htable, hclock, hlists⟩
    obtain ⟨hentry', hdetents'⟩ := u.sampleOne_other a b hj
    exact ⟨hentry'.trans hentry, hdetents'.trans hdetents, by simp [htable], by simp [hclock],
      fun h => (u.sampleOne_faults a b j _).1 (hlists h)⟩
  · rintro u ⟨hentry, hdetents, htable, hclock, hlists⟩
    obtain ⟨hat, hon, hglitch⟩ := State.sampleOne_at (a := a) (b := b) hentry (htable ▸ hread) (by rw [htable, hclock])
    exact ⟨hat, by rw [hon, hdetents], fun h hl => hglitch h (hlists hl)⟩
  · rintro u j hj ⟨hentry, hdetents, hraised⟩
    obtain ⟨hentry', hdetents'⟩ := u.sampleOne_other a b hj
    exact ⟨hentry'.trans hentry, hdetents'.trans hdetents, fun h hl => (u.sampleOne_faults a b j _).2 (hraised h hl)⟩

/-! ## What a sample does to its knob (R53, R54, R56) -/

/-- The steps of the clockwise sequence (R53). -/
def clockwiseSteps : List ((Bool × Bool) × (Bool × Bool)) :=
  [((false, false), (true, false)), ((true, false), (true, true)), ((true, true), (false, true)), ((false, true), (false, false))]

theorem turnOf_spec : ∀ l p : Bool × Bool, ((l, p) ∈ clockwiseSteps → turnOf l p = .cw) ∧ ((p, l) ∈ clockwiseSteps → turnOf l p = .ccw)
    ∧ (l.1 ≠ p.1 → l.2 ≠ p.2 → turnOf l p = .double) := by decide

section
variable {t : Table} {now : Time} {k : Fin 12} {p : Bool × Bool} {e : KnobEntry}

theorem sampleKnob_first (h : e.levels = none) : sampleKnob t now k p e = ({ e with levels := some p }, [], false) := by
  simp [sampleKnob, h]

theorem sampleKnob_still (h : e.levels = some p) : sampleKnob t now k p e = (e, [], false) := by
  obtain ⟨levels, quarter, lastDir, recent⟩ := e
  subst h
  simp [sampleKnob, turnOf]

theorem sampleKnob_double {l : Bool × Bool} (h : e.levels = some l) (h1 : l.1 ≠ p.1) (h2 : l.2 ≠ p.2) :
    sampleKnob t now k p e = ({ e with levels := some p }, [], true) := by
  simp [sampleKnob, h, (turnOf_spec l p).2.2 h1 h2]

/-- The count after one quarter: none completed, or a detent in the direction it reaches (R54). -/
def quarterDone (edges : Int) (q : Int) : Int × Option Dir :=
  if edges ≤ q then (0, some .cw) else if q ≤ -edges then (0, some .ccw) else (q, none)

theorem quarterDone_count (edges q : Int) : (quarterDone edges q).1 = if (quarterDone edges q).2.isSome then 0 else q := by
  unfold quarterDone
  split
  · rfl
  · split <;> rfl

/-- A step either way, with the count it makes. -/
theorem sampleKnob_step {l : Bool × Bool} {q : Int} (h : e.levels = some l)
    (hstep : (l, p) ∈ clockwiseSteps ∧ q = e.quarter + 1 ∨ (p, l) ∈ clockwiseSteps ∧ q = e.quarter - 1) :
    sampleKnob t now k p e = match (quarterDone (t.panel.knobEdges.getD k.val 4 : Nat) q).2 with
      | none => ({ e with levels := some p, quarter := q }, [], false)
      | some d => ((completeDetent t now k d { e with levels := some p, quarter := 0 }).1,
          (completeDetent t now k d { e with levels := some p, quarter := 0 }).2, false) := by
  obtain ⟨hcw, hccw, -⟩ := turnOf_spec l p
  have hquarter (d : Dir) (hd : q = match d with | .cw => e.quarter + 1 | .ccw => e.quarter - 1) :
      quarterAfter (t.panel.knobEdges.getD k.val 4) e.quarter d = quarterDone (t.panel.knobEdges.getD k.val 4 : Nat) q := by
    subst hd
    cases d <;> rfl
  have hcount := quarterDone_count (t.panel.knobEdges.getD k.val 4 : Nat) q
  rcases hstep with ⟨hmem, hq⟩ | ⟨hmem, hq⟩
  · simp only [sampleKnob, h, hcw hmem, hquarter .cw hq]
    generalize quarterDone (t.panel.knobEdges.getD k.val 4 : Nat) q = w at *
    cases hdone : w.2 with
    | none => simp [hcount, hdone]
    | some d => simp [hcount, hdone]
  · simp only [sampleKnob, h, hccw hmem, hquarter .ccw hq]
    generalize quarterDone (t.panel.knobEdges.getD k.val 4 : Nat) q = w at *
    cases hdone : w.2 with
    | none => simp [hcount, hdone]
    | some d => simp [hcount, hdone]

/-- A completed detent: discarded, or entered in the list and handed on (R54, R56, R57). -/
theorem completeDetent_discarded {d : Dir} (h : knobRef t k = none ∨ t.trigger.source = .line ∧ knobRef t k = some levelRef) :
    completeDetent t now k d e = (e, []) := by
  rcases h with h | ⟨hline, h⟩
  · simp [completeDetent, h]
  · simp [completeDetent, h, hline]

theorem completeDetent_handedOn {d : Dir} {r : Ref}
    (h : ¬ (knobRef t k = none ∨ t.trigger.source = .line ∧ knobRef t k = some levelRef)) (hr : knobRef t k = some r) :
    completeDetent t now k d e = ({ e with recent := recentAfter e d now, lastDir := some d },
      [.detent k r d (multiplier t.panel.accel ((recentAfter e d now).filter fun x => decide ((now - x).toNat < 100000)).length)]) := by
  have hline : ¬ (t.trigger.source = .line ∧ r = levelRef) := fun ⟨hl, hl'⟩ => h (.inr ⟨hl, hl' ▸ hr⟩)
  simp [completeDetent, hr, hline]

theorem recentAfter_eq (d : Dir) :
    recentAfter e d now = (if (if e.lastDir = none ∨ e.lastDir = some d then e.recent else []).length < 20
      then if e.lastDir = none ∨ e.lastDir = some d then e.recent else []
      else (if e.lastDir = none ∨ e.lastDir = some d then e.recent else []).drop 1) ++ [now] := by
  have hlen (kept : List Time) :
      (if 20 ≤ kept.length then kept.drop 1 else kept) = if kept.length < 20 then kept else kept.drop 1 := by
    split
    · rw [if_neg (by omega)]
    · rw [if_pos (by omega)]
  unfold recentAfter
  cases hl : e.lastDir with
  | none => simp only [true_or, if_true, hlen]
  | some l => by_cases hd : l = d <;> simp only [hd, hlen, Option.some.injEq, reduceCtorEq, false_or, if_true, if_false]

theorem multiplier_eq (accel : Bool) (young : Nat) :
    multiplier accel young = if accel = false ∨ young ≤ 4 then 1 else if young ≤ 9 then 5 else 20 := by
  cases accel <;> simp [multiplier, Nat.lt_succ_iff]

end

/-- Settles O42. -/
theorem knobSampleCountsQuarters : Obligations.KnobSampleCountsQuarters := by
  intro a b s hr
  refine ⟨_, exec_of_running hr rfl, ?_, ?_, fun k e he hread => ?_⟩
  · simp [State.sameBut, commandEffect, State.knobSample]
  · simp [commandEffect, State.knobSample]
  · obtain ⟨hentry, hwaiting, hglitch⟩ : s.knobLeft k
        (sampleKnob s.table ((commandEffect (.knobSample a b) s.begin).settle).clock.now k (a.getLsbD k, b.getLsbD k) e)
        (commandEffect (.knobSample a b) s.begin).settle := by
      have hleft := State.sampleKnobs_knob (a := a) (b := b) (s := s.begin.arrive s.clock.knobAt) (e := e) (k := k) (by simp [he]) (by simp [hread])
      simp only [State.knobLeft, commandEffect, State.knobSample] at hleft ⊢
      simpa [State.detents] using hleft
    generalize (commandEffect (.knobSample a b) s.begin).settle = t at *
    intro now cw edges waiting
    have hstays {r : KnobEntry} {g : Bool} (h : sampleKnob s.table t.clock.now k (a.getLsbD k, b.getLsbD k) e = (r, [], g)) :
        t.scanner.knobs[k.val]? = some r ∧ waiting t = waiting s := by
      rw [h] at hentry hwaiting
      exact ⟨hentry, hwaiting.trans (List.append_nil _)⟩
    refine ⟨fun hl => hstays (sampleKnob_first hl), fun hl => hstays (sampleKnob_still hl), fun l q hl hq => ?_, fun l hl h1 h2 => ?_⟩
    · have hstep := sampleKnob_step (t := s.table) (now := t.clock.now) (k := k) hl hq
      refine ⟨fun hlt hgt => ?_, ?_⟩
      · have hnone : (quarterDone edges q).2 = none := by
          simp [quarterDone, Int.not_le.mpr hlt, Int.not_le.mpr hgt]
        rw [hnone] at hstep
        exact hstays hstep
      · intro d hd discarded kept recent young
        have hsome : (quarterDone edges q).2 = some d := by
          rcases hd with ⟨hle, rfl⟩ | ⟨hlt, hle, rfl⟩
          · simp [quarterDone, hle]
          · simp [quarterDone, Int.not_le.mpr hlt, hle]
        rw [hsome] at hstep
        dsimp only at hstep
        refine ⟨fun hdiscarded => ?_, fun r hkept hr => ?_⟩
        · rw [completeDetent_discarded hdiscarded] at hstep
          exact hstays hstep
        · rw [completeDetent_handedOn hkept hr, recentAfter_eq, multiplier_eq] at hstep
          rw [hstep] at hentry hwaiting
          exact ⟨hentry, hwaiting⟩
    · have hdouble := sampleKnob_double (t := s.table) (now := t.clock.now) (k := k) hl h1 h2
      obtain ⟨hknob, hwait⟩ := hstays hdouble
      refine ⟨hknob, hwait, fun f hf => ?_⟩
      rw [hdouble] at hglitch
      exact hglitch rfl ⟨f, hf⟩

end Sys2Proof.Machine

/-! The Panel Scanner: a scan of the keys and push switches (R44 to R48, R58). -/

namespace Sys2Proof.Machine

/-! ## Lists indexed by their places -/

section
variable {α β : Type} {n : Nat} (f : Fin n → α → β) (l : List α)

theorem getElem?_zipWith_finRange {k : Fin n} {e : α} (h : l[k.val]? = some e) :
    ((List.finRange n).zipWith f l)[k.val]? = some (f k e) := by
  simp [List.getElem?_zipWith, h]

theorem mem_zipWith_finRange {x : β} : x ∈ (List.finRange n).zipWith f l ↔ ∃ (k : Fin n) (e : α), l[k.val]? = some e ∧ x = f k e := by
  constructor
  · intro h
    obtain ⟨i, hi⟩ := List.mem_iff_getElem?.mp h
    obtain ⟨k, e, hk, he, rfl⟩ := List.getElem?_zipWith_eq_some.mp hi
    obtain ⟨hlt, rfl⟩ := List.getElem?_eq_some_iff.mp hk
    exact ⟨_, e, by simpa using he, rfl⟩
  · rintro ⟨k, e, he, rfl⟩
    exact List.mem_iff_getElem?.mpr ⟨k.val, getElem?_zipWith_finRange f l he⟩

end

/-- What the elements of a list hand on, one list after the other, is without repetition, when each hands on its own things only. -/
theorem nodup_flatMap_zipWith {κ α β γ : Type} {f : κ → α → β × List γ} {own : κ → γ → Prop} (hone : ∀ k e, (f k e).2.Nodup)
    (hown : ∀ k e, ∀ a ∈ (f k e).2, own k a) (hinj : ∀ j k a, own j a → own k a → j = k) {ks : List κ} (hks : ks.Nodup) (l : List α) :
    ((ks.zipWith f l).flatMap (·.2)).Nodup := by
  have hmem (ks : List κ) (l : List α) : ∀ a ∈ (ks.zipWith f l).flatMap (·.2), ∃ k ∈ ks, own k a := by
    induction ks generalizing l with
    | nil => simp
    | cons k ks ih =>
      cases l with
      | nil => simp
      | cons e l =>
        intro a ha
        rw [List.zipWith_cons_cons, List.flatMap_cons, List.mem_append] at ha
        rcases ha with ha | ha
        · exact ⟨k, List.mem_cons_self, hown k e a ha⟩
        · obtain ⟨j, hj, ho⟩ := ih l a ha
          exact ⟨j, List.mem_cons_of_mem _ hj, ho⟩
  induction ks generalizing l with
  | nil => simp
  | cons k ks ih =>
    obtain ⟨hk, hks⟩ := List.nodup_cons.mp hks
    cases l with
    | nil => simp
    | cons e l =>
      rw [List.zipWith_cons_cons, List.flatMap_cons, List.nodup_append]
      refine ⟨hone k e, ih hks l, fun a ha a' ha' heq => ?_⟩
      obtain ⟨j, hj, ho⟩ := hmem ks l a' ha'
      exact hk (hinj j k a' ho (heq ▸ hown k e a ha) ▸ hj)

/-! ## One key's scan (R45 to R48, R52) -/

theorem KeyState.down_eq (st : KeyState) : st.down = (st != .released) := by cases st <;> rfl

/-- A key or push switch at one scan outside ghost hold (R45, R46). -/
theorem KeyEntry.scan_spec (debounce : Nat) (down : Bool) (e : KeyEntry) :
    (down = (e.state != .released) → e.scan debounce down = ({ e with count := 0 }, false))
      ∧ (down ≠ (e.state != .released) → e.count + 1 < debounce → e.scan debounce down = ({ e with count := e.count + 1 }, false))
      ∧ (down = false → e.state ≠ .released → debounce ≤ e.count + 1 →
          e.scan debounce down = ({ state := .released, count := 0, repeatAt := none }, false))
      ∧ (down = true → e.state = .released → debounce ≤ e.count + 1 →
          e.scan debounce down = ({ e with state := .pressed, count := 0 }, true)) := by
  refine ⟨fun h => ?_, fun h hlt => ?_, fun h hst hle => ?_, fun h hst hle => ?_⟩
  · rw [KeyEntry.scan, if_pos (by rw [KeyState.down_eq, h])]
  · rw [KeyEntry.scan, if_neg (by rw [KeyState.down_eq]; exact h), if_pos hlt]
  · rw [KeyEntry.scan, if_neg (by rw [KeyState.down_eq, h]; simpa using hst), if_neg (by omega)]
    cases hs : e.state
    case released => exact absurd hs hst
    all_goals rfl
  · rw [KeyEntry.scan, if_neg (by rw [KeyState.down_eq, h, hst]; decide), if_neg (by omega), hst]

/-- A key or push switch settles down in a scan. -/
def KeyEntry.settles (debounce : Nat) (down : Bool) (e : KeyEntry) : Prop :=
  down = true ∧ e.state = .released ∧ debounce ≤ e.count + 1

theorem KeyEntry.scan_pressed_iff (debounce : Nat) (down : Bool) (e : KeyEntry) :
    (e.scan debounce down).2 = true ↔ e.settles debounce down := by
  obtain ⟨hsame, hcounts, hup, hdown⟩ := e.scan_spec debounce down
  constructor
  · intro h
    by_cases heq : down = (e.state != .released)
    · rw [hsame heq] at h
      cases h
    · by_cases hlt : e.count + 1 < debounce
      · rw [hcounts heq hlt] at h
        cases h
      · by_cases hst : e.state = .released
        · exact ⟨by cases down <;> simp_all, hst, by omega⟩
        · have hd : down = false := by cases down <;> simp_all
          rw [hup hd hst (by omega)] at h
          cases h
  · rintro ⟨hd, hst, hle⟩
    rw [hdown hd hst hle]

/-- What the keys and switches of a scan become and hand on, place by place. -/
def scannedKeys (keys : BitVec 40) (s : State) : List (KeyEntry × List PanelAction) :=
  (List.finRange 40).zipWith (fun i e =>
    if decide (3 ≤ bitCount keys) then ({ e with count := 0 }, []) else scanKey s.table s.clock.now (keys.getLsbD i.val) i e) s.scanner.keys

def scannedPushes (pushes : BitVec 12) (s : State) : List (KeyEntry × List PanelAction) :=
  (List.finRange 12).zipWith (fun i e => scanPush s.table (pushes.getLsbD i.val) i e) s.scanner.pushes

theorem State.scanPanel_eq (keys : BitVec 40) (pushes : BitVec 12) (s : State) :
    (s.scanPanel keys pushes).scanner.keys = (scannedKeys keys s).map (·.1)
      ∧ (s.scanPanel keys pushes).scanner.pushes = (scannedPushes pushes s).map (·.1)
      ∧ (s.scanPanel keys pushes).inbox = { s.inbox with
          actions := s.inbox.actions ++ ((scannedKeys keys s).flatMap (·.2) ++ (scannedPushes pushes s).flatMap (·.2)) } := by
  refine ⟨rfl, rfl, ?_⟩
  rw [← List.append_assoc]
  rfl

/-- The actions that a key submits: its press action, once (R48). -/
theorem scanKey_submits {t : Table} {now : Time} {down : Bool} {k : Fin 40} {e : KeyEntry} {a : PanelAction} :
    a ∈ (scanKey t now down k e).2 ↔
      e.settles t.panel.debounceMs down ∧ ∃ b, t.keybinds[k.val]? = some b ∧ pressAction t k b = some a := by
  rw [← KeyEntry.scan_pressed_iff]
  unfold scanKey keyPressed
  dsimp only
  split
  · next h =>
    cases hb : t.keybinds[k.val]? with
    | none => simp [h]
    | some b =>
      cases ha : pressAction t k b with
      | none => simp [ha]
      | some x => simp [h, ha, eq_comm (a := a)]
  · next h => simp [h]

theorem scanPush_submits {t : Table} {down : Bool} {k : Fin 12} {e : KeyEntry} {a : PanelAction} :
    a ∈ (scanPush t down k e).2 ↔ knobRead t k = true ∧ e.settles t.panel.debounceMs down
      ∧ ¬ (k = 10 ∧ t.trigger.source = .line) ∧ a = .push k (pushRef k) := by
  have hten : k.val = 10 ↔ k = 10 := ⟨fun h => Fin.ext h, fun h => congrArg Fin.val h⟩
  rw [← KeyEntry.scan_pressed_iff]
  unfold scanPush
  cases hread : knobRead t k with
  | false => simp
  | true => by_cases hp : (e.scan t.panel.debounceMs down).2 = true <;> by_cases hk : k = 10 <;> by_cases hl : t.trigger.source = .line <;> simp_all

/-- A key hands on its own press action, at most one. -/
theorem scanKey_own (t : Table) (now : Time) (down : Bool) (k : Fin 40) (e : KeyEntry) :
    (scanKey t now down k e).2.Nodup ∧ ∀ a ∈ (scanKey t now down k e).2, ∃ act r arg, a = .press k act r arg := by
  refine ⟨?_, fun a ha => ?_⟩
  · unfold scanKey keyPressed
    dsimp only
    (repeat' split) <;> simp
  · obtain ⟨-, b, -, hpress⟩ := scanKey_submits.mp ha
    unfold pressAction at hpress
    split at hpress
    · cases hpress
    · obtain ⟨r, -, rfl⟩ := Option.map_eq_some_iff.mp hpress
      exact ⟨_, _, _, rfl⟩

theorem scanPush_own (t : Table) (down : Bool) (k : Fin 12) (e : KeyEntry) :
    (scanPush t down k e).2.Nodup ∧ ∀ a ∈ (scanPush t down k e).2, ∃ r, a = .push k r := by
  refine ⟨?_, fun a ha => ?_⟩
  · unfold scanPush
    dsimp only
    (repeat' split) <;> simp
  · obtain ⟨-, -, -, rfl⟩ := scanPush_submits.mp ha
    exact ⟨_, rfl⟩

/-- What a scan submits: each key's and each switch's action, once (R48, R58). -/
theorem scanned_submits (keys : BitVec 40) (pushes : BitVec 12) (s : State) :
    ((scannedKeys keys s).flatMap (·.2) ++ (scannedPushes pushes s).flatMap (·.2)).Nodup
      ∧ ∀ a, a ∈ (scannedKeys keys s).flatMap (·.2) ++ (scannedPushes pushes s).flatMap (·.2) ↔
        (∃ (k : Fin 40) (e : KeyEntry), s.scanner.keys[k.val]? = some e ∧ bitCount keys < 3
            ∧ e.settles s.table.panel.debounceMs (keys.getLsbD k.val)
            ∧ ∃ b, s.table.keybinds[k.val]? = some b ∧ pressAction s.table k b = some a)
          ∨ (∃ (k : Fin 12) (e : KeyEntry), s.scanner.pushes[k.val]? = some e ∧ knobRead s.table k = true
              ∧ e.settles s.table.panel.debounceMs (pushes.getLsbD k.val)
              ∧ ¬ (k = 10 ∧ s.table.trigger.source = .line) ∧ a = .push k (pushRef k)) := by
  have hkeys (a : PanelAction) : a ∈ (scannedKeys keys s).flatMap (·.2) ↔
      ∃ (k : Fin 40) (e : KeyEntry), s.scanner.keys[k.val]? = some e ∧ bitCount keys < 3
        ∧ e.settles s.table.panel.debounceMs (keys.getLsbD k.val)
        ∧ ∃ b, s.table.keybinds[k.val]? = some b ∧ pressAction s.table k b = some a := by
    simp only [scannedKeys, List.mem_flatMap, mem_zipWith_finRange]
    constructor
    · rintro ⟨x, ⟨k, e, he, rfl⟩, ha⟩
      by_cases hghost : 3 ≤ bitCount keys
      · simp [hghost] at ha
      · rw [if_neg (by simpa using hghost)] at ha
        exact ⟨k, e, he, by omega, scanKey_submits.mp ha⟩
    · rintro ⟨k, e, he, hlt, ha⟩
      refine ⟨_, ⟨k, e, he, rfl⟩, ?_⟩
      rw [if_neg (by simpa using hlt)]
      exact scanKey_submits.mpr ha
  have hpushes (a : PanelAction) : a ∈ (scannedPushes pushes s).flatMap (·.2) ↔
      ∃ (k : Fin 12) (e : KeyEntry), s.scanner.pushes[k.val]? = some e ∧ knobRead s.table k = true
        ∧ e.settles s.table.panel.debounceMs (pushes.getLsbD k.val)
        ∧ ¬ (k = 10 ∧ s.table.trigger.source = .line) ∧ a = .push k (pushRef k) := by
    simp only [scannedPushes, List.mem_flatMap, mem_zipWith_finRange]
    constructor
    · rintro ⟨x, ⟨k, e, he, rfl⟩, ha⟩
      exact ⟨k, e, he, scanPush_submits.mp ha⟩
    · rintro ⟨k, e, he, ha⟩
      exact ⟨_, ⟨k, e, he, rfl⟩, scanPush_submits.mpr ha⟩
  refine ⟨List.nodup_append.mpr ⟨?_, ?_, ?_⟩, fun a => by rw [List.mem_append, hkeys, hpushes]⟩
  · refine nodup_flatMap_zipWith (own := fun k a => ∃ act r arg, a = PanelAction.press k act r arg) (fun k e => ?_) (fun k e => ?_) ?_
      (List.nodup_finRange 40) _
    · split
      · exact List.nodup_nil
      · exact (scanKey_own _ _ _ k e).1
    · split
      · simp
      · exact (scanKey_own _ _ _ k e).2
    · rintro j k a ⟨_, _, _, rfl⟩ ⟨_, _, _, h⟩
      cases h
      rfl
  · refine nodup_flatMap_zipWith (own := fun k a => ∃ r, a = PanelAction.push k r) (fun k e => (scanPush_own _ _ k e).1)
      (fun k e => (scanPush_own _ _ k e).2) ?_ (List.nodup_finRange 12) _
    rintro j k a ⟨_, rfl⟩ ⟨_, h⟩
    cases h
    rfl
  · intro a ha a' ha' heq
    subst heq
    obtain ⟨k, e, -, -, hk⟩ := (hkeys a).mp ha
    obtain ⟨act, r, arg, hpress⟩ := (scanKey_own s.table s.clock.now _ k e).2 a (scanKey_submits.mpr hk)
    obtain ⟨j, _, -, -, -, -, hpush⟩ := (hpushes a).mp ha'
    exact PanelAction.noConfusion (hpress.symm.trans hpush)

/-- What a scan makes of one key (R44 to R48, R52). -/
theorem scannedKeys_key {keys : BitVec 40} {s : State} {k : Fin 40} {e : KeyEntry} (he : s.scanner.keys[k.val]? = some e) :
    ((scannedKeys keys s).map (·.1))[k.val]? = some
      (if 3 ≤ bitCount keys then { e with count := 0 } else (scanKey s.table s.clock.now (keys.getLsbD k) k e).1) := by
  rw [List.getElem?_map, scannedKeys, getElem?_zipWith_finRange _ _ he]
  by_cases hghost : 3 ≤ bitCount keys <;> simp [hghost]

theorem scannedPushes_push {pushes : BitVec 12} {s : State} {k : Fin 12} {e : KeyEntry} (he : s.scanner.pushes[k.val]? = some e) :
    ((scannedPushes pushes s).map (·.1))[k.val]? = some (scanPush s.table (pushes.getLsbD k) k e).1 := by
  rw [List.getElem?_map, scannedPushes, getElem?_zipWith_finRange _ _ he]
  rfl

theorem scanKey_of_not_pressed {t : Table} {now : Time} {down : Bool} {k : Fin 40} {e e' : KeyEntry}
    (h : e.scan t.panel.debounceMs down = (e', false)) : (scanKey t now down k e).1 = e' := by
  simp [scanKey, h]

theorem KeyAction.steps_iff (a : KeyAction) : a.steps = true ↔ a = .stepUp ∨ a = .stepDown := by cases a <;> simp [KeyAction.steps]

/-- A press that settles down: PRESSED, with a step key's repeat target (R48, R52). -/
theorem keyPressed_spec (t : Table) (now : Time) (k : Fin 40) (e : KeyEntry) :
    (keyPressed t now k e).1.state = e.state ∧ (keyPressed t now k e).1.count = e.count
      ∧ ∀ b, t.keybinds[k.val]? = some b → (keyPressed t now k e).1.repeatAt =
          if (pressAction t k b).isSome ∧ (b.action = .stepUp ∨ b.action = .stepDown) then some (after now 500000) else e.repeatAt := by
  unfold keyPressed
  cases hb : t.keybinds[k.val]? with
  | none => simp
  | some b =>
    cases ha : pressAction t k b with
    | none => simp [ha]
    | some a => by_cases hs : b.action.steps = true <;> simp [ha, hs, ← KeyAction.steps_iff]

/-- Settles O37. -/
theorem keyScanDebounces : Obligations.KeyScanDebounces := by
  intro keys pushes s hr
  refine ⟨_, exec_of_running hr rfl, by simp [State.sameBut, commandEffect, State.keyScan], by simp [commandEffect, State.keyScan], ?_⟩
  obtain ⟨u, hu, hkeys, hpushes, hinbox, hnow⟩ : ∃ u : State, (u.table = s.table ∧ u.scanner = s.scanner ∧ u.inbox = s.inbox)
      ∧ (commandEffect (.keyScan keys pushes) s.begin).settle.scanner.keys = (scannedKeys keys u).map (·.1)
      ∧ (commandEffect (.keyScan keys pushes) s.begin).settle.scanner.pushes = (scannedPushes pushes u).map (·.1)
      ∧ (commandEffect (.keyScan keys pushes) s.begin).settle.inbox = { u.inbox with
          actions := u.inbox.actions ++ ((scannedKeys keys u).flatMap (·.2) ++ (scannedPushes pushes u).flatMap (·.2)) }
      ∧ (commandEffect (.keyScan keys pushes) s.begin).settle.clock.now = u.clock.now := by
    obtain ⟨hkeys, hpushes, hinbox⟩ := (s.begin.arrive s.clock.scanAt).scanPanel_eq keys pushes
    exact ⟨s.begin.arrive s.clock.scanAt, by simp, hkeys, hpushes, hinbox, by simp [commandEffect, State.keyScan]⟩
  generalize (commandEffect (.keyScan keys pushes) s.begin).settle = t at *
  obtain ⟨htable, hscanner, hwaiting⟩ := hu
  refine ⟨fun k e he => ?_, fun k e he => ?_, ?_⟩
  · have hentry := scannedKeys_key (keys := keys) (s := u) (k := k) (hscanner ▸ he)
    rw [← hkeys, htable, ← hnow] at hentry
    obtain ⟨hsame, hcounts, hup, hdown⟩ := e.scan_spec s.table.panel.debounceMs (keys.getLsbD k)
    have hscan {e' : KeyEntry} (hlt : bitCount keys < 3) (h : e.scan s.table.panel.debounceMs (keys.getLsbD k) = (e', false)) :
        t.scanner.keys[k.val]? = some e' := by
      rw [hentry, if_neg (by omega), scanKey_of_not_pressed h]
    refine ⟨fun hghost => by rw [hentry, if_pos hghost], fun hlt h => hscan hlt (hsame h), fun hlt h hc => hscan hlt (hcounts h hc),
      fun hlt hd hst hc => hscan hlt (hup hd hst hc), fun hlt hd hst hc => ?_⟩
    rw [if_neg (by omega), scanKey, hdown hd hst hc] at hentry
    obtain ⟨hstate, hcount, hrepeat⟩ := keyPressed_spec s.table t.clock.now k { e with state := .pressed, count := 0 }
    exact ⟨_, hentry, hstate, hcount, hrepeat⟩
  · have hentry := scannedPushes_push (pushes := pushes) (s := u) (k := k) (hscanner ▸ he)
    rw [← hpushes, htable] at hentry
    obtain ⟨hsame, hcounts, hup, hdown⟩ := e.scan_spec s.table.panel.debounceMs (pushes.getLsbD k)
    have hscan {e' : KeyEntry} {b : Bool} (hread : knobRead s.table k = true)
        (h : e.scan s.table.panel.debounceMs (pushes.getLsbD k) = (e', b)) : t.scanner.pushes[k.val]? = some e' := by
      rw [hentry, scanPush, hread, h]
      rfl
    refine ⟨fun hread => by rw [hentry, scanPush, hread]; rfl, fun hread h => hscan hread (hsame h),
      fun hread h hc => hscan hread (hcounts h hc), fun hread hd hst hc => hscan hread (hup hd hst hc),
      fun hread hd hst hc => hscan hread (hdown hd hst hc)⟩
  · obtain ⟨hnodup, hsubmits⟩ := scanned_submits keys pushes u
    rw [htable, hscanner] at hsubmits
    refine ⟨_, hinbox.trans (by rw [hwaiting]), hnodup, fun a => (hsubmits a).trans (or_congr ?_ ?_)⟩
    · constructor
      · rintro ⟨k, e, he, hlt, hset, b, hb, ha⟩
        exact ⟨k, e, b, he, hlt, hset, hb, ha⟩
      · rintro ⟨k, e, b, he, hlt, hset, hb, ha⟩
        exact ⟨k, e, he, hlt, hset, b, hb, ha⟩
    · exact Iff.rfl

end Sys2Proof.Machine

/-! What the Composer draws lies inside the screen (R99 to R101), and how REDUCE data becomes a column (R118 to R125). -/

namespace Sys2Proof.Machine

/-! ## Paints inside the screen -/

/-- Every paint of a list lies inside the screen with a palette index below 16. -/
def PaintsOk (l : List Paint) : Prop := ∀ p ∈ l, p.ok = true

@[simp] theorem paintsOk_nil : PaintsOk [] := by simp [PaintsOk]

@[simp] theorem paintsOk_append {l m : List Paint} : PaintsOk (l ++ m) ↔ PaintsOk l ∧ PaintsOk m := by
  simp [PaintsOk, or_imp, forall_and]

theorem paintsOk_flatMap {α : Type} {l : List α} {f : α → List Paint} (h : ∀ x ∈ l, PaintsOk (f x)) : PaintsOk (l.flatMap f) := by
  intro p hp
  obtain ⟨x, hx, hp⟩ := List.mem_flatMap.mp hp
  exact h x hx p hp

/-- Paints that all lie inside the screen are all drawn. -/
theorem FrameBuffer.draw_of_ok {l : List Paint} (h : PaintsOk l) (b : FrameBuffer) : b.draw l = l.reverse ++ b := by
  unfold FrameBuffer.draw
  induction l generalizing b with
  | nil => rfl
  | cons p l ih =>
    have hp : p.ok = true := h p List.mem_cons_self
    rw [List.foldl_cons, if_pos hp, ih (fun q hq => h q (List.mem_cons_of_mem p hq)), List.reverse_cons, List.append_assoc]
    rfl

theorem traceBox_ok (x0 y0 x1 y1 : Int) {colour : Nat} (h : colour < 16) : PaintsOk (traceBox x0 y0 x1 y1 colour) := by
  unfold traceBox
  dsimp only
  split
  · intro p hp
    rw [List.mem_singleton] at hp
    subst hp
    have hwidth : screenWidth = 1024 := rfl
    have hheight : screenHeight = 600 := rfl
    exact decide_eq_true (by omega)
  · exact paintsOk_nil

/-! ## Columns (R118, R120, R122) -/

theorem rowOfCode_spec (c : Int) : 0 ≤ rowOfCode c ∧ rowOfCode c ≤ 399 ∧ (3647 < c → rowOfCode c = 0) ∧ (c < 448 → rowOfCode c = 399)
    ∧ (448 ≤ c → c ≤ 3647 → rowOfCode c = 399 - (c - 448) / 8) := by
  unfold rowOfCode floorDiv
  split
  · omega
  · split <;> omega

/-- A multiple of the divisor is divided without rounding. -/
theorem roundDiv_mul_self (n : Int) {d : Int} (hd : 0 < d) : roundDiv (n * d) d = n := by
  have hn := n.natAbs_mul d
  have hpos : 0 < d.natAbs := Int.natAbs_pos.mpr hd.ne'
  have habs : (2 * (n * d).natAbs + d.natAbs) / (2 * d.natAbs) = n.natAbs := by
    rw [hn, show 2 * (n.natAbs * d.natAbs) + d.natAbs = (2 * n.natAbs + 1) * d.natAbs by ring, Nat.mul_div_mul_right _ _ hpos]
    omega
  have hsign : n * d < 0 ↔ n < 0 := by
    constructor
    · intro h
      by_contra hneg
      have := mul_nonneg (not_lt.mp hneg) hd.le
      omega
    · exact fun h => mul_neg_of_neg_of_pos h hd
  have hm : (2 * ((n * d).natAbs : Int) + (d.natAbs : Int)) / (2 * (d.natAbs : Int)) = (n.natAbs : Int) := by
    rw [← habs]
    push_cast
    rfl
  unfold roundDiv
  dsimp only
  rw [hm]
  split <;> omega

theorem rescale_spec (d : ChanDesc) (c : ViewChannel) (code : Nat) :
    (0 < c.scale → d.scale = c.scale → d.offset = c.offset → code ≤ 4095 → rescale d c code = code)
      ∧ (code = 0 ∨ code = 4095 → rescale d c code = code) := by
  refine ⟨fun hpos hscale hoffset hle => ?_, fun h => if_pos h⟩
  unfold rescale
  split
  · rfl
  · rw [if_neg (by omega), hscale, hoffset, Int.sub_self, Int.zero_mul, Int.add_zero, roundDiv_mul_self _ hpos]
    omega

theorem ceilDiv_le_iff {n d k : Int} (hd : 0 < d) : ceilDiv n d ≤ k ↔ n ≤ k * d := by
  have hle : -k ≤ -n / d ↔ -k * d ≤ -n := Int.le_ediv_iff_mul_le hd
  unfold ceilDiv
  rw [Int.neg_mul] at hle
  omega

/-- A column's sample range holds just the samples of the record whose time lies in the column (R118). -/
theorem sampleRange_spec (v : View) (d : Descriptor) (x : Nat) (k : Int) (hpos : 0 < d.interval) :
    (sampleRange v d x).1 ≤ k ∧ k ≤ (sampleRange v d x).2 ↔
      0 ≤ k ∧ k ≤ d.length - 1 ∧ v.leftEdge + x * v.columnWidth ≤ (k + (d.delay - d.pre)) * d.interval
        ∧ (k + (d.delay - d.pre)) * d.interval < v.leftEdge + (x + 1) * v.columnWidth := by
  have hfirst := ceilDiv_le_iff (n := v.leftEdge + x * v.columnWidth) (k := k + (d.delay - d.pre)) hpos
  have hpast := ceilDiv_le_iff (n := v.leftEdge + x * v.columnWidth + v.columnWidth) (k := k + (d.delay - d.pre)) hpos
  have hend : v.leftEdge + ((x : Int) + 1) * v.columnWidth = v.leftEdge + x * v.columnWidth + v.columnWidth := by ring
  rw [hend]
  unfold sampleRange Descriptor.shift
  dsimp only
  generalize (k + (d.delay - d.pre)) * d.interval = time at *
  generalize v.leftEdge + x * v.columnWidth = start at *
  omega

/-! ## A column's paints (R122 to R125) -/

theorem columnSpan_ok (x : Nat) (r1 r2 : Int) {colour : Nat} (h : colour < 16) : PaintsOk (columnSpan x r1 r2 colour) :=
  traceBox_ok _ _ _ _ h

theorem interpolated_ok (ca cb : Nat) (ra rb : Int) {colour : Nat} (h : colour < 16) (count col : Nat) (carry : Int) :
    PaintsOk (interpolated ca cb ra rb colour count col carry).1 := by
  induction count generalizing col carry with
  | zero => exact paintsOk_nil
  | succ count ih => exact paintsOk_append.mpr ⟨columnSpan_ok _ _ _ h, ih _ _⟩

theorem rangeTicks_ok (x : Nat) (least greatest : Int) {colour : Nat} (h : colour < 16) :
    PaintsOk (rangeTicks x least greatest colour) := by
  unfold rangeTicks
  refine paintsOk_append.mpr ⟨?_, ?_⟩ <;> split <;> first | exact traceBox_ok _ _ _ _ h | exact paintsOk_nil

theorem columnPaints_ok (style : DrawStyle) (d : ChanDesc) {c : ViewChannel} (h : c.colour < 16) (tr : Trace)
    (cb first last least greatest : Nat) : PaintsOk (columnPaints style d c tr cb first last least greatest).1 := by
  unfold columnPaints
  dsimp only
  split
  · exact paintsOk_append.mpr ⟨columnSpan_ok _ _ _ h, rangeTicks_ok _ _ _ h⟩
  · exact paintsOk_append.mpr ⟨columnSpan_ok _ _ _ h, rangeTicks_ok _ _ _ h⟩
  · exact paintsOk_append.mpr ⟨paintsOk_append.mpr ⟨interpolated_ok _ _ _ _ h _ _ _, columnSpan_ok _ _ _ h⟩, rangeTicks_ok _ _ _ h⟩

/-! ## REDUCE data taken (R95, R119) -/

theorem Composer.drawBack_roles (l : List Paint) (c : Composer) :
    (c.drawBack l).front = c.front ∧ (c.drawBack l).front1 = c.front1 ∧ (c.drawBack l).back = c.back.draw l := by
  unfold Composer.drawBack Composer.front Composer.back
  cases h : c.front1 <;> simp

theorem Composer.drawColumn_front (first last least greatest : Nat) (c : Composer) :
    (c.drawColumn first last least greatest).front = c.front ∧ (c.drawColumn first last least greatest).front1 = c.front1 := by
  unfold Composer.drawColumn
  (repeat' split) <;> first | exact ⟨rfl, rfl⟩ | exact ⟨(c.drawBack_roles _).1, (c.drawBack_roles _).2.1⟩

theorem Composer.drawColumn_back {first last least greatest : Nat} {c : Composer} {v : View} {x : Bank} {d : Descriptor} {n : ChannelName}
    {rest : List ChannelName} {cb : Nat} {ch : ViewChannel} {cd : ChanDesc} (hv : c.snapshot = some v) (hshown : v.shown = some (x, d))
    (hasked : c.trace.asked = some cb) (htodo : c.trace.todo = n :: rest) (hch : v.channel n = some ch)
    (hcd : (d.chans.find? fun y => y.chan == n) = some cd) :
    (c.drawColumn first last least greatest).back = c.back.draw (columnPaints v.draw cd ch c.trace cb first last least greatest).1 := by
  have hdraw : c.drawColumn first last least greatest =
      { c.drawBack (columnPaints v.draw cd ch c.trace cb first last least greatest).1 with
        trace := { c.trace with col := cb + 1, carry := (columnPaints v.draw cd ch c.trace cb first last least greatest).2, asked := none } } := by
    simp only [Composer.drawColumn, hv, hasked, htodo, hshown, hch, hcd]
  rw [hdraw]
  exact (c.drawBack_roles _).2.2

theorem Composer.roles_of_buffers {c c' : Composer} (h1 : c'.front1 = c.front1) (h0 : c'.buf0 = c.buf0) (hb : c'.buf1 = c.buf1) :
    c'.front = c.front ∧ c'.back = c.back := by
  unfold Composer.front Composer.back
  rw [h1, h0, hb]
  exact ⟨rfl, rfl⟩

/-- REDUCE data without an outstanding reduction is discarded; with one it is drawn and the pass goes on (R95, R119). -/
theorem State.takeReduceData_cases (first last least greatest : Nat) (s : State) :
    ((∀ q due, s.port.outstanding ≠ some (.reduce q, due)) → s.takeReduceData first last least greatest = s)
      ∧ ∀ q due, s.port.outstanding = some (.reduce q, due) → s.takeReduceData first last least greatest =
          ({ s with port := { s.port with outstanding := none }
                    composer := s.composer.drawColumn first last least greatest } : State).advanceTrace := by
  unfold State.takeReduceData
  refine ⟨fun h => ?_, fun q due h => by rw [h]⟩
  split
  · next q due hq => exact absurd hq (h q due)
  all_goals rfl

theorem exec_reduceData {first last least greatest : Nat} (ha : first < 65536) (hb : last < 65536) (hc : least < 65536)
    (hd : greatest < 65536) {s : State} (hr : s.inReset = false) :
    exec (.reduceData (CaptureMsg.reduceData first last least greatest).bytes) s =
      .next (s.begin.takeReduceData first last least greatest).settle :=
  (command_next _ s hr).trans (by rw [State.takeMessage_of_fits (m := .reduceData first last least greatest) ⟨ha, hb, hc, hd⟩]; rfl)

/-- Settles O47. -/
theorem reduceDataIsDrawn : Obligations.ReduceDataIsDrawn := by
  refine ⟨fun s first last least greatest hr ha hb hc hd => ⟨_, exec_reduceData ha hb hc hd hr, ?_⟩, rowOfCode_spec, fun d c code => ?_,
    fun v d x k hpos => sampleRange_spec v d x k hpos, fun style d c tr cb first last least greatest b h => FrameBuffer.draw_of_ok
        (columnPaints_ok style d h tr cb first last least greatest) b⟩
  · obtain ⟨hdiscarded, htaken⟩ := s.begin.takeReduceData_cases first last least greatest
    by_cases hout : ∃ q due, s.port.outstanding = some (.reduce q, due)
    · obtain ⟨q, due, hout⟩ := hout
      rw [htaken q due hout]
      obtain ⟨hfront, hfront1⟩ := s.composer.drawColumn_front first last least greatest
      generalize hu : ({ s.begin with port := { s.begin.port with outstanding := none }
                                      composer := s.begin.composer.drawColumn first last least greatest } : State) = u
      have hcomposer : u.composer = s.composer.drawColumn first last least greatest := by rw [← hu]; rfl
      obtain ⟨hroleF, hroleB⟩ := Composer.roles_of_buffers (c := u.composer) (c' := u.advanceTrace.composer) (by simp) (by simp) (by simp)
      refine ⟨hroleF.trans (by rw [hcomposer, hfront]), by simp [hcomposer, hfront1], by simp [← hu], by simp [← hu],
        fun h => absurd hout (h q due), fun q' due' v x d n rest cb ch cd _ hv hshown hasked htodo hch hcd => ?_⟩
      refine hroleB.trans ?_
      rw [hcomposer]
      exact Composer.drawColumn_back hv hshown hasked htodo hch hcd
    · have hnone : ∀ q due, s.port.outstanding ≠ some (.reduce q, due) := fun q due h => hout ⟨q, due, h⟩
      rw [hdiscarded hnone]
      exact ⟨rfl, rfl, rfl, rfl, fun _ => s.sameBut_begin_settle, fun q due v x d n rest cb ch cd h => absurd h (hnone q due)⟩
  · obtain ⟨hsame, hrail⟩ := rescale_spec d c code
    exact ⟨hsame, hrail, rfl⟩

end Sys2Proof.Machine

/-! The layers of a frame lie inside the screen (R107 to R114, R128 to R138), and the Composer's frame cycle:
the frame start, the frame end and the vertical blank (R81, R101 to R106). -/

namespace Sys2Proof.Machine

/-! ## Boxes and lines -/

theorem fiveBars_ok {bar : Int → List Paint} (h : ∀ j, PaintsOk (bar j)) : PaintsOk (fiveBars bar) :=
  paintsOk_flatMap fun j _ => h j

theorem edgeArrow_ok (e : Edge) (centre : Int) {colour : Nat} (h : colour < 16) : PaintsOk (edgeArrow e centre colour) := by
  unfold edgeArrow
  cases e <;> exact fiveBars_ok fun j => traceBox_ok _ _ _ _ h

theorem columnLine_ok (x : Int) {colour : Nat} (h : colour < 16) : PaintsOk (columnLine x colour) := traceBox_ok _ _ _ _ h

theorem rowLine_ok (y : Int) {colour : Nat} (h : colour < 16) : PaintsOk (rowLine y colour) := traceBox_ok _ _ _ _ h

theorem ticks_ok : PaintsOk ticks :=
  paintsOk_append.mpr ⟨paintsOk_flatMap fun _ _ => traceBox_ok _ _ _ _ (by decide), paintsOk_flatMap fun _ _ => traceBox_ok _ _ _ _ (by decide)⟩

/-- The graticule lies inside the screen in every style (R108). -/
theorem graticuleLayer_ok (g : Graticule) : PaintsOk (graticuleLayer g) := by
  have hcolumn (x : Int) : PaintsOk (columnLine x 1) := columnLine_ok x (by decide)
  have hrow (y : Int) : PaintsOk (rowLine y 1) := rowLine_ok y (by decide)
  cases g
  case full => exact paintsOk_append.mpr ⟨paintsOk_append.mpr ⟨paintsOk_flatMap fun x _ => hcolumn x, paintsOk_flatMap fun y _ => hrow y⟩, ticks_ok⟩
  case axes => exact paintsOk_append.mpr ⟨paintsOk_append.mpr ⟨hcolumn _, hrow _⟩, ticks_ok⟩
  case frame =>
    exact paintsOk_append.mpr ⟨paintsOk_append.mpr ⟨paintsOk_append.mpr ⟨hcolumn _, hcolumn _⟩, hrow _⟩, hrow _⟩

/-! ## Text -/

theorem textAt_ok {row col fg : Nat} {bg : Option Nat} (text : Text) (hrow : row < 37) (hfg : fg < 16) (hbg : ∀ b, bg = some b → b < 16) :
    PaintsOk (textAt row col text fg bg) := by
  intro p hp
  obtain ⟨⟨ch, i⟩, hi, rfl⟩ := List.mem_map.mp hp
  have hlt : i < (text.take (128 - col)).length := (List.mem_zipIdx hi).2.1.trans_eq (Nat.zero_add _)
  rw [List.length_take] at hlt
  have hcell : col + i < 128 ∧ row < 37 ∧ fg < 16 := ⟨by omega, hrow, hfg⟩
  cases bg with
  | none => simp [Paint.ok, hcell]
  | some b => simp [Paint.ok, hcell, hbg b rfl]

theorem opaqueText_ok {row col fg : Nat} (text : Text) (hrow : row < 37) (hfg : fg < 16) : PaintsOk (opaqueText row col text fg) :=
  textAt_ok text hrow hfg fun b hb => by cases hb; decide

/-! ## The layers after the traces (R109 to R114, R128 to R138) -/

theorem timeMarker_ok (v : View) (t : Int) (dashed : Bool) : PaintsOk (timeMarker v t dashed) := by
  unfold timeMarker
  dsimp only
  split
  · exact edgeArrow_ok _ _ (by decide)
  · split
    · exact edgeArrow_ok _ _ (by decide)
    · split
      · intro p hp
        rw [List.mem_singleton] at hp
        subst hp
        have hwidth : screenWidth = 1024 := rfl
        have hheight : screenHeight = 600 := rfl
        exact decide_eq_true (by omega)
      · exact columnLine_ok _ (by decide)

theorem voltMarker_ok (c : ViewChannel) (volts : Int) (dashed : Bool) : PaintsOk (voltMarker c volts dashed) := by
  unfold voltMarker
  dsimp only
  split
  · exact edgeArrow_ok _ _ (by decide)
  · split
    · exact edgeArrow_ok _ _ (by decide)
    · split
      · intro p hp
        rw [List.mem_singleton] at hp
        subst hp
        obtain ⟨hlow, hhigh, -⟩ := rowOfCode_spec (viewCode c volts)
        have hwidth : screenWidth = 1024 := rfl
        have hheight : screenHeight = 600 := rfl
        exact decide_eq_true (by omega)
      · exact rowLine_ok _ (by decide)

theorem cursorLayer_ok (v : View) : PaintsOk (cursorLayer v) := by
  refine paintsOk_flatMap fun p _ => ?_
  unfold cursorPaints
  split
  · split
    · exact paintsOk_append.mpr ⟨timeMarker_ok _ _ _, timeMarker_ok _ _ _⟩
    · split
      · exact paintsOk_append.mpr ⟨voltMarker_ok _ _ _, voltMarker_ok _ _ _⟩
      · exact paintsOk_nil
  · exact paintsOk_nil

theorem positionMarker_ok (v : View) : PaintsOk (positionMarker v) := by
  unfold positionMarker
  dsimp only
  split
  · exact edgeArrow_ok _ _ (by decide)
  · split
    · exact edgeArrow_ok _ _ (by decide)
    · exact fiveBars_ok fun j => traceBox_ok _ _ _ _ (by decide)

theorem levelMarkerAt_ok (code : Int) {colour : Nat} (h : colour < 16) : PaintsOk (levelMarkerAt code colour) := by
  unfold levelMarkerAt
  split
  · exact edgeArrow_ok _ _ h
  · split
    · exact edgeArrow_ok _ _ h
    · exact fiveBars_ok fun j => traceBox_ok _ _ _ _ h

theorem levelMarker_ok {v : View} (h : ∀ c ∈ v.channels, c.colour < 16) : PaintsOk (levelMarker v) := by
  unfold levelMarker
  split
  · split
    · next c hc => exact levelMarkerAt_ok _ (h c (List.mem_of_find?_eq_some hc))
    · exact paintsOk_nil
  · exact levelMarkerAt_ok _ (by decide)
  · exact paintsOk_nil

theorem annotationLayer_ok {v : View} (h : ∀ a ∈ v.annotations, a.2.colour < 16 ∧ a.2.row < 37) : PaintsOk (annotationLayer v) :=
  paintsOk_flatMap fun a ha => textAt_ok _ (h a ha).2 (h a ha).1 fun b hb => by cases hb

theorem bandItems_colour {v : View} (h : ∀ c ∈ v.channels, c.colour < 16) : ∀ i ∈ bandItems v, i.2 < 16 := by
  intro i hi
  simp only [bandItems, List.mem_append, List.mem_map, List.mem_cons, List.not_mem_nil, or_false] at hi
  rcases hi with ((⟨c, hc, rfl⟩ | rfl | rfl | rfl) | ⟨m, -, rfl⟩) | ⟨c, -, rfl⟩
  · exact h c (List.mem_of_mem_filter hc)
  · exact (by decide : 8 < 16)
  · exact (by decide : 8 < 16)
  · exact (by decide : 8 < 16)
  · unfold measurementItem
    dsimp only
    split <;> decide
  · unfold cursorItem
    dsimp only
    split <;> exact (by decide : 6 < 16)

theorem readoutLayer_ok {v : View} (h : ∀ c ∈ v.channels, c.colour < 16) : PaintsOk (readoutLayer v) := by
  unfold readoutLayer
  split
  · exact paintsOk_nil
  · refine paintsOk_flatMap fun p hp => ?_
    obtain ⟨-, hlt, hitem⟩ := List.mem_zipIdx hp
    rw [Nat.zero_add, List.length_take] at hlt
    have hmem : p.1 ∈ bandItems v := List.mem_of_mem_take (hitem ▸ List.getElem_mem _)
    exact opaqueText_ok _ (by omega) (bandItems_colour h _ hmem)

theorem statusLayer_ok (v : View) : PaintsOk (statusLayer v) := by
  unfold statusLayer
  dsimp only
  simp only [paintsOk_append]
  have hitem (col : Nat) (t : Text) : PaintsOk (opaqueText 1 col t 8) := opaqueText_ok t (by decide) (by decide)
  exact ⟨⟨⟨⟨⟨hitem _ _, hitem _ _⟩, hitem _ _⟩, hitem _ _⟩, hitem _ _⟩, hitem _ _⟩

theorem softKeyBox_ok (m : Menu) {k : Nat} (hk : 1 ≤ k) (hk7 : k ≤ 7) : PaintsOk (softKeyBox m k) := by
  unfold softKeyBox
  dsimp only
  have hcolour (c : Prop) [Decidable c] : (if c then 8 else 0) < 16 ∧ (if c then 0 else 8) < 16 := by split <;> decide
  intro p hp
  rcases List.mem_cons.mp hp with rfl | hp
  · have hwidth : screenWidth = 1024 := rfl
    have hheight : screenHeight = 600 := rfl
    have := (hcolour (decide (m.highlight = k) = true)).1
    exact decide_eq_true (by omega)
  · exact textAt_ok _ (by decide) (hcolour _).2 (fun b hb => by cases hb; exact (hcolour _).1) p hp

theorem softKeyLayer_ok (v : View) : PaintsOk (softKeyLayer v) := by
  refine paintsOk_append.mpr ⟨opaqueText_ok _ (by decide) (by decide), paintsOk_flatMap fun k hk => ?_⟩
  have hrange : 1 ≤ k ∧ k ≤ 7 := by
    simp only [List.mem_cons, List.not_mem_nil, or_false] at hk
    omega
  exact softKeyBox_ok _ hrange.1 hrange.2

/-- No paint of the upper layers of a view in range falls outside the screen or the palette. -/
theorem upperLayers_ok {v : View} (h : v.drawable) : PaintsOk (upperLayers v) := by
  obtain ⟨hchannels, hannotations⟩ := h
  simp only [upperLayers, paintsOk_append]
  exact ⟨⟨⟨⟨⟨⟨cursorLayer_ok v, positionMarker_ok v⟩, levelMarker_ok hchannels⟩, annotationLayer_ok hannotations⟩,
    readoutLayer_ok hchannels⟩, statusLayer_ok v⟩, softKeyLayer_ok v⟩

/-! ## The frame start request (R81) -/

/-- The port takes no request: it is OFFLINE or has one outstanding. -/
def State.portBusy (s : State) : Prop := s.table.system.captureOnline = false ∨ s.port.outstanding ≠ none

/-- After a port with a queue has been served it is busy (R94). -/
theorem State.pump_portBusy {s : State} (h : s.run.queue ≠ []) : s.pump.portBusy := by
  by_cases hfree : s.table.system.captureOnline = true ∧ s.port.outstanding = none
  · obtain ⟨q, rest, hq⟩ := List.exists_cons_of_ne_nil h
    have hpump : s.pump = (s.onRun fun r => { r with queue := rest }).sendRequest (.run q) := by
      unfold State.pump
      rw [if_pos hfree, hq]
    rw [hpump]
    exact .inr (by simp [State.sendRequest, State.sendMessage])
  · have hbusy : s.portBusy := by
      rw [not_and_or, Bool.not_eq_true] at hfree
      exact hfree
    rw [s.pump_of_not_free hbusy]
    exact hbusy

/-- While the port is busy the traces' next reduction waits or fails, and nothing leaves (R94, R95). -/
theorem State.advanceTrace_of_busy {s : State} (h : s.portBusy) :
    s.advanceTrace.run = s.run ∧ s.advanceTrace.port.outstanding = s.port.outstanding ∧ s.advanceTrace.out = s.out := by
  have hpump (u : State) (ht : u.table = s.table) (hp : u.port.outstanding = s.port.outstanding) :
      u.pump.run = u.run ∧ u.pump.port.outstanding = u.port.outstanding ∧ u.pump.out = u.out := by
    rw [u.pump_of_not_free (by rw [ht, hp]; exact h)]
    exact ⟨rfl, rfl, rfl⟩
  unfold State.advanceTrace State.offerReduce
  dsimp only
  (repeat' split) <;> first | exact hpump _ rfl rfl | exact ⟨rfl, rfl, rfl⟩

/-- A frame start request that frees no bank in WAIT_BANK writes no field of the table (R81). -/
theorem State.takeBank_quiet {s : State} {x : Bank} (hx : s.run.banks.find .held = some x)
    (h : s.run.banks.find .shown = none ∨ s.table.acquire.acqState ≠ .waitBank) :
    s.takeBank.table = s.table ∧ s.takeBank.composer.recompose = s.composer.recompose := by
  cases hy : s.run.banks.find .shown with
  | none =>
    have htake : s.takeBank = s.onBanks (·.move x .shown) := by simp [State.takeBank, hx, hy]
    rw [htake]
    exact ⟨rfl, rfl⟩
  | some y =>
    have hwait : s.table.acquire.acqState ≠ .waitBank := by
      rcases h with h | h
      · rw [h] at hy
        cases hy
      · exact h
    have htake : s.takeBank = (s.onBanks fun b => (b.move y .free).move x .shown).pump := by
      simp [State.takeBank, hx, hy, State.bankFreed, State.onBanks, hwait]
    rw [htake]
    exact ⟨by simp [State.onBanks], by simp [State.onBanks]⟩

/-- An arm out of WAIT_BANK changes acq_state, which sets recompose-needed (R3, R82). -/
theorem State.arm_sets_recompose {s : State} {x : Bank} (hfree : s.run.banks.find .free = some x)
    (hwait : s.table.acquire.acqState = .waitBank) : s.arm.composer.recompose = true := by
  have hset (u : State) (hu : u.table = s.table) : (u.setAcqState .arming).composer.recompose = true := by
    have hne : ({ u.table with acquire := { u.table.acquire with acqState := .arming } } : Table).get acqStateRef ≠ u.table.get acqStateRef := by
      have hget (t : Table) : t.get acqStateRef = some (enumValue AcqState.positions t.acquire.acqState) := rfl
      rw [hget, hget, hu, hwait]
      exact (by decide : some (enumValue AcqState.positions .arming) ≠ some (enumValue AcqState.positions .waitBank))
    unfold State.setAcqState State.statusUpdate
    dsimp only
    rw [if_neg hne]
    rfl
  unfold State.arm
  rw [hfree]
  exact State.statusUpdate_recompose _ _ (hset _ rfl)

/-- A frame start request that frees the SHOWN bank in WAIT_BANK arms it (R81, R82). -/
theorem State.takeBank_arms {s : State} {x y : Bank} (hx : s.run.banks.find .held = some x) (hy : s.run.banks.find .shown = some y)
    (hwait : s.table.acquire.acqState = .waitBank) (hout : s.out.capture = []) :
    s.takeBank.composer.recompose = true ∧ s.takeBank.portBusy
      ∧ s.takeBank.run.banks.get y = { state := .filling, armed := false, desc := some (descriptorOf s.planner s.table) }
      ∧ s.takeBank.table.acquire.acqState = .arming ∧ s.takeBank.table.acquire.trigStatus = .waiting
      ∧ State.queued (s.run.queue ++ [.arm y s.planner.plan s.planner.front s.planner.trig]) s s.takeBank := by
  obtain ⟨rfl, hheld, hshown⟩ := Banks.shown_other hx hy
  generalize hu : s.onBanks (fun b => (b.move x.other .free).move x .shown) = u
  have htake : s.takeBank = u.arm.pump := by
    rw [← hu]
    simp [State.takeBank, hx, hy, State.bankFreed, State.onBanks, hwait]
  have hfree : u.run.banks.find .free = some x.other := by
    rw [← hu]
    clear htake hu
    cases x <;> simp_all [State.onBanks, State.onRun, Banks.find, Banks.move, Banks.set, Banks.get, Bank.other, BankEntry.free]
  obtain ⟨hutable, huplanner, huport⟩ : u.table = s.table ∧ u.planner = s.planner ∧ u.port = s.port := by
    rw [← hu]
    exact ⟨rfl, rfl, rfl⟩
  obtain ⟨htable, hrun⟩ := u.arm_of_free x.other hfree
  rw [huplanner, hutable] at hrun
  have hqueue : u.arm.run.queue = s.run.queue ++ [.arm x.other s.planner.plan s.planner.front s.planner.trig] := by
    rw [hrun, ← hu]
    rfl
  have hqueued := u.arm.pump_queued _ hqueue (by rw [← hu]; simpa [State.onBanks] using hout)
  rw [htake]
  refine ⟨?_, State.pump_portBusy (by simp [hqueue]), ?_, ?_, ?_, ?_⟩
  · rw [State.pump_recompose]
    exact State.arm_sets_recompose hfree (by rw [← hu]; exact hwait)
  · simp [hrun]
  · simp [htable]
  · simp [htable]
  · exact State.queued_of_eq hqueued (by simp [htable, hutable]) (by simp [huport]) rfl rfl rfl rfl

/-- What a frame start leaves at the port where the frame start request left it busy. -/
theorem State.frameStart_of_busy {s S : State} (hS : S = ({ s with composer := { s.composer with recompose := false } } : State).takeBank)
    (hbusy : S.portBusy) :
    s.frameStart.run = S.run ∧ s.frameStart.port.outstanding = S.port.outstanding ∧ s.frameStart.out = S.out := by
  unfold State.frameStart
  dsimp only
  rw [← hS]
  clear hS
  split
  · exact ⟨rfl, rfl, rfl⟩
  · exact State.advanceTrace_of_busy (s := { S with composer := _ }) hbusy

/-- Settles O55. -/
theorem frameStartTakesTheSnapshot : Obligations.FrameStartTakesTheSnapshot := by
  intro s hr
  by_cases hdue : s.composer.state = .idle ∧ s.composer.recompose = true
  · have heffect : commandEffect .frameStart s.begin = s.begin.frameStart := if_pos hdue
    have hexec : exec .frameStart s = .next s.begin.frameStart.settle := by
      rw [exec_of_running hr rfl, heffect]
    generalize hw : ({ s.begin with composer := { s.begin.composer with recompose := false } } : State) = w
    obtain ⟨hfront, hfront1, hstate, hback, hsnapshot, htable, hbanks, hrecompose⟩ := s.begin.frameStart_effect w.takeBank (by rw [hw])
    have hport := State.frameStart_of_busy (s := s.begin) (S := w.takeBank) (by rw [hw])
    have hw' : w.table = s.table ∧ w.run = s.run ∧ w.planner = s.planner ∧ w.port = s.port ∧ w.composer.recompose = false
        ∧ w.out.capture = [] := by
      rw [← hw]
      exact ⟨rfl, rfl, rfl, rfl, rfl, rfl⟩
    have hsame : s.sameBut [.table, .lamps, .run, .port, .composer, .out] s.begin.frameStart.settle := by simp [State.sameBut]
    have hsettings := w.takeBank_settings
    have hclock : s.begin.frameStart.clock = w.takeBank.clock := by simp [← hw]
    generalize s.begin.frameStart = t at *
    obtain ⟨hwtable, hwrun, hwplanner, hwport, hwrecompose, hwout⟩ := hw'
    rw [hwtable] at hsettings
    refine ⟨_, hexec, hsame, hfront, hfront1, fun h => absurd hdue h, fun _ _ => ⟨hstate, ?_, ?_, hback, ?_, fun hnone => ?_,
      fun x hx => ?_, fun x hx hquiet => ?_, fun x y hx hy => ⟨fun hwait => ?_, fun hwait => ?_⟩⟩⟩
    · rw [State.settle_table, htable, hsettings]
    · rw [State.settle_composer, hsnapshot, State.settle_table, State.settle_run, htable, hbanks]
    · rw [State.settle_composer, hback, FrameBuffer.draw_of_ok (graticuleLayer_ok _), List.append_nil]
      rfl
    · have htake := w.takeBank_of_none (by rw [hwrun]; exact hnone)
      rw [htake] at htable hbanks hrecompose hsnapshot
      exact ⟨htable.trans hwtable, hbanks.trans (by rw [hwrun]), hrecompose.trans hwrecompose, hsnapshot.trans (by rw [hwtable, hwrun])⟩
    · obtain ⟨hshown, hdesc, -⟩ := w.takeBank_effect x (by rw [hwrun]; exact hx)
      rw [State.settle_run, hbanks]
      exact ⟨hshown, hdesc.trans (by rw [hwrun])⟩
    · obtain ⟨hkept, hflag⟩ := State.takeBank_quiet (s := w) (x := x) (by rw [hwrun]; exact hx) (by rw [hwrun, hwtable]; exact hquiet)
      exact ⟨(hrecompose.trans hflag).trans hwrecompose, (htable.trans hkept).trans hwtable⟩
    · obtain ⟨-, -, hfreed⟩ := w.takeBank_effect x (by rw [hwrun]; exact hx)
      rw [State.settle_run, hbanks]
      exact (hfreed y (by rw [hwrun]; exact hy)).1 (by rw [hwtable]; exact hwait)
    · obtain ⟨hflag, hbusy, harmed, hacq, htrig, hqueued⟩ := State.takeBank_arms (s := w) (x := x) (y := y) (by rw [hwrun]; exact hx)
        (by rw [hwrun]; exact hy) (by rw [hwtable]; exact hwait) hwout
      obtain ⟨hrun, houtstanding, hout⟩ := hport hbusy
      rw [State.settle_table, State.settle_run, htable, hbanks, harmed, hwplanner, hwtable]
      refine ⟨hrecompose.trans hflag, rfl, hacq, htrig, ?_⟩
      rw [hwrun, hwplanner] at hqueued
      exact State.queued_of_eq hqueued (by rw [hwtable]) (by rw [hwport]) (by rw [State.settle_run, hrun]) houtstanding
        (by rw [State.settle_clock, hclock]) (by rw [State.settle_out, hout])
  · have heffect : commandEffect .frameStart s.begin = s.begin := if_neg hdue
    refine ⟨_, exec_of_running hr rfl, ?_⟩
    rw [heffect]
    exact ⟨by simp [State.sameBut], rfl, rfl, fun _ => s.sameBut_begin_settle, fun hi hn => absurd ⟨hi, hn⟩ hdue⟩

/-! ## The frame end and the vertical blank (R101 to R103, R106) -/

theorem Composer.front_back_swap {c c' : Composer} (h1 : c'.front1 = !c.front1) (h0 : c'.buf0 = c.buf0) (hb : c'.buf1 = c.buf1) :
    c'.front = c.back ∧ c'.back = c.front := by
  unfold Composer.front Composer.back
  rw [h1, h0, hb]
  cases c.front1 <;> exact ⟨rfl, rfl⟩

/-- The index a buffer inside the screen has at a pixel is of the palette. -/
theorem FrameBuffer.pixel_lt {b : FrameBuffer} (h : b.wf = true) (x y : Nat) : b.pixel x y < 16 := by
  have hpaint (p : Paint) (hp : p.ok = true) (i : Nat) (hi : p.pixel x y = some i) : i < 16 := by
    cases p
    case rect x0 y0 x1 y1 c =>
      simp only [Paint.ok, decide_eq_true_eq, Paint.pixel] at hp hi
      split at hi <;> simp_all
    case dashedDown x0 y0 y1 c =>
      simp only [Paint.ok, decide_eq_true_eq, Paint.pixel] at hp hi
      split at hi <;> simp_all
    case dashedAcross y0 x0 x1 c =>
      simp only [Paint.ok, decide_eq_true_eq, Paint.pixel] at hp hi
      split at hi <;> simp_all
    case glyph col row ch fg bg =>
      simp only [Paint.ok, Bool.and_eq_true, decide_eq_true_eq, Paint.pixel] at hp hi
      (repeat' split at hi) <;> simp_all
  unfold FrameBuffer.pixel
  cases hfind : b.findSome? fun p => p.pixel x y with
  | none => exact (by decide : 0 < 16)
  | some i =>
    obtain ⟨p, hp, hi⟩ := List.exists_of_findSome?_eq_some hfind
    exact hpaint p (List.all_eq_true.mp h p hp) i hi

/-- A buffer inside the screen shows a colour of the palette at every pixel (R101). -/
theorem State.shown_palette {s : State} (h : s.buffersInScreen) (x y : Nat) :
    ∃ i < 16, ∃ c, s.composer.front.pixel x y = i ∧ palette[i]? = some c ∧ s.composer.shown x y = some c := by
  have hfront : s.composer.front.wf = true := by
    unfold Composer.front
    split
    · exact h.2
    · exact h.1
  have hlt := FrameBuffer.pixel_lt hfront x y
  have hlen : palette.length = 16 := rfl
  exact ⟨_, hlt, _, rfl, List.getElem?_eq_getElem (hlen ▸ hlt), List.getElem?_eq_getElem (hlen ▸ hlt)⟩

/-- The drawing that finishes (R106): the upper layers, the frame end request, and WAIT_SWAP. -/
theorem State.frameEnd_of_drawn {s : State} {v : View} (hstate : s.composer.state = .composing) (hv : s.composer.snapshot = some v)
    (htodo : s.composer.trace.todo = []) {u : State} (hu : u = { s with composer := s.composer.drawBack (upperLayers v) }) :
    s.frameEnd = { u.endBank with composer := { u.endBank.composer with state := .waitSwap } } := by
  subst hu
  simp only [State.frameEnd, hstate, hv, htodo, List.isEmpty_nil, if_true]

/-- The buffers exchanged and the Composer IDLE, before a frame starts (R102, R103). -/
def State.swapped (s : State) : State :=
  { s with composer := { s.composer with front1 := !s.composer.front1, state := .idle } }

theorem State.verticalBlank_cases (s : State) :
    (s.composer.state = .waitSwap → s.composer.recompose = false → s.verticalBlank = s.swapped)
      ∧ (s.composer.state = .waitSwap → s.composer.recompose = true → s.verticalBlank = s.swapped.frameStart)
      ∧ (s.composer.state ≠ .waitSwap → s.verticalBlank = s) := by
  refine ⟨fun h hr => ?_, fun h hr => ?_, fun h => ?_⟩
  · simp only [State.verticalBlank, h]
    exact if_neg (by simp [hr])
  · simp only [State.verticalBlank, h]
    exact if_pos ⟨rfl, hr⟩
  · unfold State.verticalBlank
    split
    · next hs => exact absurd hs h
    all_goals rfl

/-- Settles O56. -/
theorem frameEndAndVerticalBlankSwap : Obligations.FrameEndAndVerticalBlankSwap := by
  refine ⟨fun s hr => ⟨fun v hstate hv htodo => ⟨_, exec_of_running hr rfl, ?_⟩, fun hswap => ⟨_, exec_of_running hr rfl, ?_⟩,
    fun hswap => ⟨_, exec_of_running hr rfl, ?_⟩⟩, fun s h x y => State.shown_palette h x y, by decide⟩
  · obtain ⟨hfront, hfront1, hback⟩ := s.composer.drawBack_roles (upperLayers v)
    generalize hu : ({ s.begin with composer := s.begin.composer.drawBack (upperLayers v) } : State) = u
    have hend : commandEffect .frameEnd s.begin = { u.endBank with composer := { u.endBank.composer with state := .waitSwap } } :=
      State.frameEnd_of_drawn (s := s.begin) hstate hv htodo hu.symm
    have hcomposer : u.composer = s.composer.drawBack (upperLayers v) := by rw [← hu]; rfl
    have hrun : u.run = s.run ∧ u.table = s.table := by rw [← hu]; exact ⟨rfl, rfl⟩
    obtain ⟨hroleF, hroleB⟩ := Composer.roles_of_buffers (c := u.composer) (c' := { u.endBank.composer with state := .waitSwap })
      (by simp) (by simp) (by simp)
    rw [hcomposer] at hroleF hroleB
    have hdrawn := hroleB.trans hback
    rw [hend]
    refine ⟨rfl, ?_, hroleF.trans hfront, hdrawn, fun hdrawable => ?_, fun hnone => ?_, fun x y hx hy => ?_⟩
    · simp [hcomposer, hfront1]
    · exact hdrawn.trans (FrameBuffer.draw_of_ok (upperLayers_ok hdrawable) _)
    · rw [u.endBank_of_none (by rw [hrun.1]; exact hnone)]
      exact congrArg RunControl.banks hrun.1
    · have heffect := u.endBank_effect x y (by rw [hrun.1]; exact hx) (by rw [hrun.1]; exact hy)
      rw [hrun.1, hrun.2] at heffect
      exact heffect
  · obtain ⟨hidle, hstarts, -⟩ := s.begin.verticalBlank_cases
    obtain ⟨hfront, hback⟩ := Composer.front_back_swap (c := s.composer) (c' := s.begin.swapped.composer) rfl rfl rfl
    have heffect : commandEffect .verticalBlank s.begin = s.begin.verticalBlank := rfl
    rw [heffect]
    cases hrec : s.composer.recompose with
    | false =>
      rw [hidle hswap hrec]
      exact ⟨rfl, hfront, fun _ => ⟨rfl, hback, by simp [State.sameBut, State.swapped]⟩, fun h => Bool.noConfusion h⟩
    | true =>
      rw [hstarts hswap hrec]
      obtain ⟨hfront', hfront1, hstate, -⟩ := s.begin.swapped.frameStart_effect _ rfl
      exact ⟨hfront1, hfront'.trans hfront, fun h => Bool.noConfusion h, fun _ => hstate⟩
  · have hstays : commandEffect .verticalBlank s.begin = s.begin := s.begin.verticalBlank_cases.2.2 hswap
    rw [hstays]
    exact s.sameBut_begin_settle

end Sys2Proof.Machine
